-- ==== Sys2Proof/Word.lean ====
section
/-! DEFINITION. The words of the THZ-412: bytes, pixels and the fixed-width numbers of its registers. -/

namespace Sys2Proof

/-- One byte of a packet, a payload, a message or the glyph store. -/
abbrev Byte := BitVec 8

/-- A 24-bit colour: red in bits 23..16, green in bits 15..8, blue in bits 7..0 (00_scope.md, Conventions). -/
abbrev Pixel := BitVec 24

/-- A 16-bit register: an epoch, an idle limit, the LFSR, the notice mask, a counter, a notice detail. -/
abbrev Word16 := BitVec 16

/-- A 32-bit register: the output frame number, a fingerprint, a 32-bit check. -/
abbrev Word32 := BitVec 32

/-- Add 1, staying at the largest value (R162 for the lost-notice count, R165 for the counters). -/
def satInc {w : Nat} (x : BitVec w) : BitVec w :=
  if x = BitVec.allOnes w then x else x + 1

end Sys2Proof
end

