-- ==== Sys2Proof/Syntax.lean ====
section
/-! DEFINITION. The commands of the THZ-412: one constructor for each row of opcode_table.json. -/

namespace Sys2Proof

/-- The steps of the part, each whole and indivisible (95_what_each_step_holds.md). A row of a management command
is the take of that command at the head of the part's own command queue (R145), where its epoch, tag and
arguments stand; it has no operand of its own (log entry 1). -/
inductive Instr where
  /-- POWER_ON_RESET (R158). -/
  | powerOnReset
  /-- PIN_RESET (R158): RESET_N is driven low. -/
  | pinReset
  /-- PIN_RESET_RELEASE (R158): RESET_N is released. -/
  | pinResetRelease
  /-- DEVICE_RESET_EVENT (R157): the end of transmission of the DONE reply to DEVICE_RESET. -/
  | deviceResetEvent
  /-- START_SYMBOL (R1). -/
  | startSymbol
  /-- PACKET_RECEPTION_END (R5): `bytes` are the data symbols received since the start symbol. Where they are fewer
  than R1 requires, another symbol ended the reception (log entry 3). -/
  | packetReceptionEnd (bytes : List Byte)
  /-- SILENCE_TIMER_EXPIRY (R9). -/
  | silenceTimerExpiry
  /-- IDLE_TIMER_EXPIRY (R152). -/
  | idleTimerExpiry
  /-- LANE_FREE (R163). -/
  | laneFree
  /-- LINE_START (R82). -/
  | lineStart
  /-- ACTIVE_DATA_END (R123). -/
  | activeDataEnd
  /-- LINE_END of a line of an ACTIVE frame (R94). -/
  | lineEnd
  /-- WAIT_LINE_END (R84). -/
  | waitLineEnd
  /-- FRAME_END (R96). -/
  | frameEnd
  /-- The take of PING (R154). -/
  | ping
  /-- The take of OPEN_SESSION (R150). -/
  | openSession
  /-- The take of CLOSE_SESSION (R151). -/
  | closeSession
  /-- The take of READ_STATUS (R155). -/
  | readStatus
  /-- The take of SET_NOTICES (R156). -/
  | setNotices
  /-- The take of DEVICE_RESET (R157). -/
  | deviceReset
  /-- The take of STAGE_RASTER (R128). -/
  | stageRaster
  /-- The take of STAGE_PROGRAM (R129). -/
  | stageProgram
  /-- The take of STAGE_PROGRAM_LENGTH (R130). -/
  | stageProgramLength
  /-- The take of STAGE_PATTERN (R131). -/
  | stagePattern
  /-- The take of INSERT_WINDOW (R132). -/
  | insertWindow
  /-- The take of REMOVE_WINDOW (R133). -/
  | removeWindow
  /-- The take of MOVE_WINDOW (R133). -/
  | moveWindow
  /-- The take of COMMIT (R137). -/
  | commit
  /-- The take of DISCARD (R140). -/
  | discard
  /-- The take of READ_CONFIG (R134). -/
  | readConfig
  /-- The take of WRITE_GLYPH (R119). -/
  | writeGlyph
  /-- The take of WRITE_PALETTE (R122). -/
  | writePalette
  /-- The take of START_OUTPUT (R91). -/
  | startOutput
  /-- The take of STOP_OUTPUT (R92). -/
  | stopOutput
  /-- The take of HOLD_OUTPUT (R93). -/
  | holdOutput
  /-- The take of RESUME_OUTPUT (R95). -/
  | resumeOutput
  /-- The take of READ_COUNTERS (R166). -/
  | readCounters
  /-- The take of a command whose code is not in Table 9-2 (R146). -/
  | unknownCommand
  deriving DecidableEq, Repr

end Sys2Proof
end

