-- ==== Sys2Proof/Decode.lean ====
section
/-! DEFINITION. The command a word spells by the bits of opcode_table.json. No row of that table gives bits, so no
word spells a command; the packet formats of the forward link and of the management payload are read in
Sys2Proof/Machine/Link.lean and Sys2Proof/Machine/Operands.lean. -/

namespace Sys2Proof

/-- The command a word of `nbits` bits spells: none, for every row of the table gives no bits. -/
def decodeTableWord (_nbits _w : Nat) : Option Instr := none

end Sys2Proof
end

