-- ==== Sys2Proof/Machine/Cells.lean ====
section
/-! DEFINITION. Sparse memories in one canonical form: a list of (address, value) pairs with strictly rising addresses.
The glyph store and the palette are kept so (R118, R121). An unlisted address holds no known value; `Cells.read?`
answers `none` there, so no entry can equal what an unlisted address reads as (log entries 6 and 7). -/

namespace Sys2Proof.Machine

variable {α : Type}

/-- What is known of an address: the value written there, or nothing. -/
def Cells.read? (m : List (Nat × α)) (a : Nat) : Option α :=
  match m with
  | [] => none
  | (b, v) :: rest => if b = a then some v else Cells.read? rest a

/-- Write one value, keeping the addresses strictly rising. -/
def Cells.write (m : List (Nat × α)) (a : Nat) (v : α) : List (Nat × α) :=
  match m with
  | [] => [(a, v)]
  | (b, u) :: rest =>
    if a < b then (a, v) :: (b, u) :: rest
    else if a = b then (a, v) :: rest
    else (b, u) :: Cells.write rest a v

/-- Write consecutive values from an address upward (R119, R123). -/
def Cells.writeFrom (m : List (Nat × α)) (a : Nat) (vs : List α) : List (Nat × α) :=
  match vs with
  | [] => m
  | v :: rest => Cells.writeFrom (Cells.write m a v) (a + 1) rest

/-- Whether every address is above `low` and below `size`, strictly rising. -/
def Cells.risingFrom (size : Nat) : Nat → List (Nat × α) → Bool
  | _, [] => true
  | low, (a, _) :: rest => decide (low ≤ a) && decide (a < size) && Cells.risingFrom size (a + 1) rest

/-- The canonical form over `size` addresses. -/
def Cells.wf (size : Nat) (m : List (Nat × α)) : Bool := Cells.risingFrom size 0 m

/-- The canonical form of the glyph store: addresses 0..16383, strictly rising (R118). -/
def Memory.wf (m : List Host.Cell) : Bool := Cells.wf 16384 m

end Sys2Proof.Machine
end

