-- ==== Sys2Proof/Config.lean ====
section
/-! DEFINITION. What is fixed for every THZ-412 (the capacities of Table 0-4) and the values the manual leaves
open: free values, constants with no body. -/

namespace Sys2Proof

/-- Records of the input frame list (R17). -/
def Config.frameListSize : Nat := 3
/-- Records of the line store (R30). -/
def Config.lineStoreSize : Nat := 8
/-- Entries of a line program (R37). -/
def Config.programSize : Nat := 64
/-- Slots of a pattern table (R100). -/
def Config.patternSlots : Nat := 16
/-- Records of a window list (R110). -/
def Config.windowListSize : Nat := 8
/-- Bytes of the glyph store (R118). -/
def Config.glyphBytes : Nat := 16384
/-- Entries of the palette (R121). -/
def Config.paletteEntries : Nat := 256
/-- Items of the pending palette list (R122). -/
def Config.palettePendingSize : Nat := 4
/-- Commands of the command queue (R144). -/
def Config.commandQueueSize : Nat := 16
/-- Replies of the reply queue (R160). -/
def Config.replyQueueSize : Nat := 16
/-- Notices of the notice queue (R162). -/
def Config.noticeQueueSize : Nat := 8
/-- Records of the reply cache (R148). -/
def Config.replyCacheSize : Nat := 4
/-- Consecutive good headers that bring the receiver into lock (R7). -/
def Config.lockRun : Nat := 4
/-- Consecutive bad packets that lose the lock (R8). -/
def Config.lossRun : Nat := 8
/-- The silence limit of 500 µs (R9) in return-lane byte times of 0.8 µs (R159). -/
def Config.silenceByteTimes : Nat := 625
/-- One millisecond of the session idle limit (R152) in return-lane byte times of 0.8 µs (R159). -/
def Config.byteTimesPerMs : Nat := 1250
/-- Bytes of the longest forward-link packet, a LINE of 2048 pixels (section 1.1). -/
def Config.longestPacket : Nat := 6156

/-- FREE VALUE (log entry 6): the byte an address of the glyph store holds after the `n`-th power-on reset and
before a WRITE_GLYPH. R118: "After power-on reset its contents are unknown." -/
opaque Config.glyphUnknown (n address : Nat) : Byte

/-- FREE VALUE (log entry 7): the colour an entry of the palette holds after the `n`-th power-on reset and before
a palette write. R121: "After power-on reset the entries are unknown." -/
opaque Config.paletteUnknown (n index : Nat) : Pixel

/-- FREE VALUE (log entry 8): whether, at the `n`-th such choice, the reply takes the idle lane before the notice
that joins together with it. R163: "either may be taken first." -/
opaque Config.replyFirst (n : Nat) : Bool

end Sys2Proof
end

