-- ==== Sys2Proof/Machine/State.lean ====
section
/-! DEFINITION. The state of the THZ-412 as plain data, one structure for each block of Table 0-1, and the state
after power-on reset. -/

namespace Sys2Proof.Machine

/-! ### Link Receiver (Table 1-4) -/

/-- The lock state (R6, R7). -/
inductive Lock where
  | search
  | locked
  deriving DecidableEq, Repr

/-- The state of the Link Receiver. -/
structure Lrx where
  /-- Lock state (R6). -/
  lock : Lock
  /-- Consecutive good-header packets in SEARCH, 0..3 (R7). -/
  goodRun : Nat
  /-- Consecutive bad packets in LOCKED, 0..7 (R8). -/
  badRun : Nat
  /-- The silence timer: stopped, or the byte times of 0.8 µs that have passed (R9; log entry 4). -/
  silence : Option Nat
  /-- Whether a packet is in reception (R1). -/
  receiving : Bool
  deriving DecidableEq, Repr

/-! ### Line Intake and Line Store (Tables 2-1, 2-3) -/

/-- The state of a frame record (R18). -/
inductive FrameState where
  | openReceiving
  | closed
  deriving DecidableEq, Repr

/-- A record of the input frame list (Table 2-1). -/
structure FrameRecord where
  /-- The tag of the OPEN that created the record. -/
  tag : Byte
  /-- Whether the source may still send lines of this frame. -/
  state : FrameState
  /-- Whether the Line Sequencer is matching this frame to the current output frame. -/
  bound : Bool
  /-- The highest line number stored or lost to overflow; absent until the first. -/
  highest : Option Nat
  /-- The number of this frame's line records in the line store. -/
  stored : Nat
  /-- Whether OVERFLOW has been raised for this frame. -/
  overflowNoticed : Bool
  deriving DecidableEq, Repr

/-- A record of the line store (Table 2-3). Its pixel count is the length of `pixels` (log entry 14). -/
structure LineRecord where
  /-- The source frame the line belongs to. -/
  tag : Byte
  /-- The source's number for the line within its frame. -/
  number : Nat
  /-- Whether the line's payload check failed. -/
  damaged : Bool
  /-- The pixels as received, leftmost first. -/
  pixels : List Pixel
  deriving DecidableEq, Repr

/-! ### Line Sequencer (Table 4-1, R46, R50) -/

/-- The state of the Line Sequencer. -/
structure Lsq where
  /-- The bound frame, or none (R60). -/
  bound : Option Byte
  /-- The expected line number e, 0..4096 (R49). -/
  expected : Nat
  /-- The last-shown buffer (R71). -/
  lastShown : Option (List Pixel)
  /-- Whether UNDERRUN has been raised in the current output frame (R68). -/
  underrunNoticed : Bool
  /-- Whether COASTING has been raised for the present stretch (R64). -/
  coastingNoticed : Bool
  /-- The cadence counter, 0..15 (R46). -/
  cadence : Nat
  /-- The LFSR (R50). -/
  lfsr : Word16
  deriving DecidableEq, Repr

/-! ### Configuration banks (Tables 5-1, 3-1, 6-1, 7-1) -/

/-- The polarity of a pulse (R85, R86). -/
inductive Polarity where
  | activeHigh
  | activeLow
  deriving DecidableEq, Repr

/-- How frame starts follow the source (R84). -/
inductive SyncMode where
  | locked
  | free
  deriving DecidableEq, Repr

/-- The substitute for a missing number (R70). -/
inductive MissingPolicy where
  | repeatLast
  | fill
  deriving DecidableEq, Repr

/-- The treatment of a damaged line at its take (R67). -/
inductive DamagedPolicy where
  | showLine
  | asMissing
  deriving DecidableEq, Repr

/-- The raster parameters (Table 5-1). -/
structure Raster where
  /-- W, active width in pixels. -/
  width : Nat
  /-- H, active height in lines. -/
  height : Nat
  /-- HS, the pixel time of the first active pixel. -/
  hStart : Nat
  /-- VS, the line of the first active line. -/
  vStart : Nat
  /-- LT, pixel times per line. -/
  lineTotal : Nat
  /-- FT, lines per frame. -/
  frameTotal : Nat
  /-- First pixel time of the line pulse. -/
  linePulseStart : Nat
  /-- Pixel times the line pulse is asserted. -/
  linePulseWidth : Nat
  /-- Level of LP while asserted. -/
  linePolarity : Polarity
  /-- First line of the frame pulse. -/
  framePulseStart : Nat
  /-- Lines the frame pulse is asserted. -/
  framePulseWidth : Nat
  /-- Level of FP while asserted. -/
  framePolarity : Polarity
  /-- Level of PCLK when the panel clock is idle. -/
  clockIdle : Bool
  /-- How frame starts follow the source. -/
  syncMode : SyncMode
  /-- PRIME: stored lines that make an unclosed frame ready. -/
  prime : Nat
  /-- COAST_LIMIT: wait lines before a LOCKED frame starts without a source frame. -/
  coastLimit : Nat
  /-- Base of FILL lines and of substitutes. -/
  background : Pixel
  /-- Substitute for a missing number. -/
  missingPolicy : MissingPolicy
  /-- Treatment of a damaged line at its take. -/
  damagedPolicy : DamagedPolicy
  /-- The pattern of lines outside the active area, or `none` for QUIET. -/
  blankClock : Option Nat
  deriving DecidableEq, Repr

/-- The action of a run (R37). -/
inductive Action where
  | showLine
  | showThin
  | repeatLine
  | fill
  deriving DecidableEq, Repr

/-- How a thinning cadence begins (R45). -/
inductive PhaseMode where
  | zero
  | seeded
  deriving DecidableEq, Repr

/-- A program entry (Table 3-1). -/
structure Entry where
  /-- Consecutive active output lines the run covers. -/
  runLength : Nat
  /-- What each line of the run shows. -/
  action : Action
  /-- The thin divisor k, held whatever the action. -/
  thinDivisor : Nat
  /-- The phase mode, held whatever the action. -/
  phaseMode : PhaseMode
  /-- The pattern for even run positions. -/
  patternA : Nat
  /-- The pattern for odd run positions, or absent. -/
  patternB : Option Nat
  /-- Whether the panel clock of the run is inverted. -/
  invert : Bool
  /-- Flag i governs the window of id i. -/
  windowMask : Byte
  deriving DecidableEq, Repr

/-- The kind of a panel clock pattern (R103, R104). -/
inductive PatternKind where
  | level
  | gate
  deriving DecidableEq, Repr

/-- A defined pattern slot (Table 6-1); its length L is the length of `bits`. -/
structure Pattern where
  /-- Whether each bit sets a level or gates a pulse. -/
  kind : PatternKind
  /-- Positions 0..L-1. -/
  bits : List Bool
  deriving DecidableEq, Repr

/-- A window record (Table 7-1). -/
structure Window where
  /-- The window's name, 0..7. -/
  id : Nat
  /-- Active pixel of the leftmost column. -/
  x : Nat
  /-- Active line of the top row. -/
  y : Nat
  /-- Columns. -/
  width : Nat
  /-- Rows. -/
  height : Nat
  /-- Glyph store address of the first byte of row 0. -/
  glyphBase : Nat
  /-- Bytes from the start of one row to the start of the next. -/
  stride : Nat
  /-- Bits per glyph pixel: 1, 2, 4 or 8. -/
  depth : Nat
  /-- Palette entry that glyph index 0 maps to. -/
  paletteBase : Nat
  /-- The glyph index that is transparent, or absent. -/
  key : Option Nat
  /-- Opacity in eighths, 1..8. -/
  weight : Nat
  deriving DecidableEq, Repr

/-- A configuration bank (R125). -/
structure Bank where
  /-- The raster parameters. -/
  raster : Raster
  /-- The 64 program entries (R37). -/
  program : Vector Entry 64
  /-- The program length n (R38). -/
  programLength : Nat
  /-- The 16 pattern slots, `none` when undefined (R100). -/
  patterns : Vector (Option Pattern) 16
  /-- The window list, position 0 (topmost) first (R110). -/
  windows : List Window
  deriving DecidableEq, Repr

/-- The default raster (R79). -/
def Raster.default : Raster where
  width := 0
  height := 0
  hStart := 0
  vStart := 0
  lineTotal := 0
  frameTotal := 0
  linePulseStart := 0
  linePulseWidth := 0
  linePolarity := .activeHigh
  framePulseStart := 0
  framePulseWidth := 0
  framePolarity := .activeHigh
  clockIdle := false
  syncMode := .locked
  prime := 0
  coastLimit := 0
  background := 0
  missingPolicy := .repeatLast
  damagedPolicy := .showLine
  blankClock := none

/-- A cleared entry (R38). -/
def Entry.cleared : Entry where
  runLength := 1
  action := .fill
  thinDivisor := 0
  phaseMode := .zero
  patternA := 0
  patternB := none
  invert := false
  windowMask := 0

/-- The default configuration (R125). -/
def Bank.default : Bank where
  raster := Raster.default
  program := Vector.replicate 64 Entry.cleared
  programLength := 0
  patterns := Vector.replicate 16 none
  windows := []

/-- The Configuration Store (R125). -/
structure Cfs where
  /-- The staging bank. -/
  staging : Bank
  /-- The active bank, `none` when empty. -/
  active : Option Bank
  /-- The commit-pending record: `none`, or the tag of the pending COMMIT. -/
  commitPending : Option Byte
  deriving DecidableEq, Repr

/-! ### Output Timing Generator (Table 5-2) -/

/-- What the panel is receiving. -/
inductive OutputState where
  | off
  | waitFrame
  | active
  | held
  deriving DecidableEq, Repr

/-- The kind of a hold (R90). -/
inductive HoldKind where
  | line
  | frame
  deriving DecidableEq, Repr

/-- Where the present HELD state was reached (R81). -/
inductive HoldPosition where
  | none
  | midFrame (resumeLine : Nat)
  | boundary
  deriving DecidableEq, Repr

/-- What an active line shows under its windows (R41, R72). -/
inductive Base where
  | line (pixels : List Pixel)
  | background
  deriving DecidableEq, Repr

/-- The clock regime of a line, with the pattern's contents as read at the line start (Table 6-2, R102). -/
inductive ClockRegime where
  | pattern (kind : PatternKind) (bits : List Bool) (invert : Bool)
  | level (high : Bool)
  deriving DecidableEq, Repr

/-- A candidate window of an active line with the glyph bytes gathered for it (R112). -/
structure Candidate where
  /-- The window record as read at the line start. -/
  window : Window
  /-- The bytes of the window row on this line. -/
  row : List Byte
  deriving DecidableEq, Repr

/-- What the Overlay Compositor gathered for an active line (R112). -/
structure Picture where
  /-- The base handed by the Line Sequencer. -/
  base : Base
  /-- The background colour read at the line start. -/
  background : Pixel
  /-- The candidate list, in window list order. -/
  candidates : List Candidate
  deriving DecidableEq, Repr

/-- What kind of line is in progress (Table 6-2). -/
inductive LineKind where
  | wait
  | blank
  | active (picture : Picture)
  deriving DecidableEq, Repr

/-- A line in progress: what was read at its line start and governs it to its line end (R82, R85, R89, R106). -/
structure Line where
  /-- Wait line, line outside the active area, or active line. -/
  kind : LineKind
  /-- LT. -/
  lineTotal : Nat
  /-- HS. -/
  hStart : Nat
  /-- W. -/
  width : Nat
  /-- First pixel time of the line pulse. -/
  pulseStart : Nat
  /-- Pixel times of the line pulse. -/
  pulseWidth : Nat
  /-- Polarity of LP. -/
  pulsePolarity : Polarity
  /-- The level of FP for the whole line (R86). -/
  framePulse : Bool
  /-- The clock regime (R106). -/
  clock : ClockRegime
  /-- Whether the active data end of the line has passed (R82); a wait line has none. -/
  dataEnded : Bool
  deriving DecidableEq, Repr

/-- Which timing event of the generator comes next (R82, R83; log entry 10). -/
inductive Phase where
  /-- No line is produced: OFF and HELD. -/
  | idle
  /-- A line start follows. -/
  | lineStartDue
  /-- A line is in progress. -/
  | inLine (l : Line)
  /-- The line end of line FT-1 has come; the frame end follows. -/
  | frameEndDue
  deriving DecidableEq, Repr

/-- The state of the Output Timing Generator. -/
structure Otg where
  /-- Output state. -/
  output : OutputState
  /-- A hold requested in ACTIVE and not yet reached. -/
  holdPending : Option HoldKind
  /-- A stop requested in ACTIVE and not yet reached. -/
  stopPending : Bool
  /-- Where the present HELD state was reached. -/
  holdPosition : HoldPosition
  /-- The line of the frame in progress, or the last line before a mid-frame hold (Table 5-2); in WAIT_FRAME and in HELD
  at BOUNDARY left as it stood, the model's choice (log entry 25). -/
  linePosition : Nat
  /-- Wait lines completed since the last entry to WAIT_FRAME, holding at 4095. -/
  waitCount : Nat
  /-- The number of the most recent frame start. -/
  frameNumber : Word32
  /-- Which timing event comes next. -/
  phase : Phase
  deriving DecidableEq, Repr

/-! ### Overlay Compositor -/

/-- An item of the pending palette list (R122). -/
structure PaletteItem where
  /-- The first entry written. -/
  first : Nat
  /-- The colours of consecutive entries. -/
  colours : List Pixel
  deriving DecidableEq, Repr

/-- The state of the Overlay Compositor. -/
structure Ovc where
  /-- The glyph store: the bytes written since power-on, by address (R118; log entry 6). -/
  glyphs : List Host.Cell
  /-- The palette: the entries written since power-on, by index (R121; log entry 7). -/
  palette : List (Nat × Pixel)
  /-- The pending palette list, oldest first (R122). -/
  palettePending : List PaletteItem
  deriving DecidableEq, Repr

/-! ### Management Engine -/

/-- A command of the command queue: its payload and fingerprint, unchanged from arrival (R143). -/
structure Command where
  /-- Epoch, tag, code and arguments, 4..260 bytes. -/
  payload : List Byte
  /-- The received payload check value. -/
  fingerprint : Word32
  deriving DecidableEq, Repr

/-- Reply status codes (Table 9-3). -/
inductive Status where
  | done
  | accepted
  | noSession
  | staleEpoch
  | unknownCommand
  | badArgument
  | stageLocked
  | invalidStage
  | full
  | wrongState
  | tagConflict
  deriving DecidableEq, Repr

/-- A complete reply (R147, Table 10-1). -/
structure Reply where
  /-- The command's tag. -/
  tag : Byte
  /-- The command's epoch. -/
  epoch : Word16
  /-- The command's code, as received. -/
  code : Byte
  /-- The status. -/
  status : Status
  /-- The REPLAYED flag. -/
  replayed : Bool
  /-- The detail byte. -/
  detail : Byte
  /-- 0..256 data bytes. -/
  data : List Byte
  deriving DecidableEq, Repr

/-- A record of the reply cache (R148). -/
structure CacheRecord where
  /-- The tag of the cached command. -/
  tag : Byte
  /-- Its fingerprint. -/
  fingerprint : Word32
  /-- Its reply as first made. -/
  reply : Reply
  deriving DecidableEq, Repr

/-- An open session (R149). -/
structure Session where
  /-- The session's epoch. -/
  epoch : Word16
  /-- The idle limit in ms, 0 for none. -/
  idleLimit : Word16
  /-- The idle timer: byte times of 0.8 µs since it last started (R152; log entry 4). -/
  idleElapsed : Nat
  deriving DecidableEq, Repr

/-- The reset cause (R155). -/
inductive ResetCause where
  | powerOn
  | pin
  | device
  deriving DecidableEq, Repr

/-- The state of the Management Engine. -/
structure Mge where
  /-- The command queue, oldest first (R144). -/
  commands : List Command
  /-- The session record, `none` when CLOSED (R149). -/
  session : Option Session
  /-- The epoch of the most recent session opened, or none (R149). -/
  lastEpoch : Option Word16
  /-- The reply cache, oldest first (R148). -/
  cache : List CacheRecord
  /-- The device-reset-pending flag (R157). -/
  resetPending : Bool
  /-- The reset cause (R155). -/
  resetCause : ResetCause
  deriving DecidableEq, Repr

/-! ### Return Lane Transmitter -/

/-- Notice kinds (Table 10-3). -/
inductive NoticeKind where
  | resetDone
  | linkLocked
  | linkLost
  | commitApplied
  | holdReached
  | outputStopped
  | underrun
  | overflow
  | frameAbandoned
  | coasting
  | sessionExpired
  deriving DecidableEq, Repr

/-- A notice as raised (R161). -/
structure Notice where
  /-- The kind. -/
  kind : NoticeKind
  /-- The detail. -/
  detail : Word16
  /-- The output frame number current when the notice was raised. -/
  frame : Word32
  deriving DecidableEq, Repr

/-- A message on the lane; a notice carries the lost count set at its lane-taken event (R162). -/
inductive Message where
  | reply (r : Reply)
  | notice (n : Notice) (lost : Byte)
  deriving DecidableEq, Repr

/-- The return lane (R163): idle, or busy with a message of which `sent` bytes have been sent. -/
inductive Lane where
  | idle
  | busy (m : Message) (sent : Nat)
  deriving DecidableEq, Repr

/-- The state of the Return Lane Transmitter. -/
structure Rlt where
  /-- The reply queue, oldest first (R160). -/
  replies : List Reply
  /-- The notice queue, oldest first (R162). -/
  notices : List Notice
  /-- The lost-notice count (R162). -/
  lost : Byte
  /-- The consecutive-reply count, 0..4 (R163). -/
  consecutive : Nat
  /-- The notice mask (R161). -/
  mask : Word16
  /-- The lane. -/
  lane : Lane
  deriving DecidableEq, Repr

/-! ### Counter Bank -/

/-- The fourteen counters, in the order of Table 10-4. -/
inductive Counter where
  | badPacket
  | mgmtDropped
  | orphanLine
  | orderLine
  | overflowLine
  | damagedLine
  | widthMismatch
  | staleLine
  | missingLine
  | excessLine
  | abandonedFrame
  | coastedFrame
  | sequenceError
  | linkLoss
  deriving DecidableEq, Repr

/-- The Counter Bank: counter i of Table 10-4 at index i (R165). -/
structure Ctb where
  /-- The counters. -/
  counters : Vector Word16 14
  deriving DecidableEq, Repr

/-! ### The whole part -/

/-- The state of the THZ-412. -/
structure State where
  /-- Link Receiver. -/
  lrx : Lrx
  /-- Line Intake: the input frame list, oldest first (R17). -/
  frames : List FrameRecord
  /-- Line Store: the line records, oldest first (R30). -/
  store : List LineRecord
  /-- Line Sequencer. -/
  lsq : Lsq
  /-- Configuration Store. -/
  cfs : Cfs
  /-- Output Timing Generator. -/
  otg : Otg
  /-- Overlay Compositor. -/
  ovc : Ovc
  /-- Management Engine. -/
  mge : Mge
  /-- Return Lane Transmitter. -/
  rlt : Rlt
  /-- Counter Bank. -/
  ctb : Ctb
  /-- Whether RESET_N is low: the part is held in reset (R158). -/
  resetHeld : Bool
  /-- The model's own: power-on resets so far; it selects the free contents of glyph store and palette
  (log entry 19). -/
  powerOns : Nat
  /-- The model's own: free choices made so far by the lane arbiter (log entries 8 and 19). -/
  choices : Nat
  /-- The model's own: the commands that wait, first in first out. -/
  pending : List Instr
  deriving DecidableEq, Repr

/-- Why a step stops with a fault: never. No row of opcode_table.json stops the part (log entry 2), so this type has no
constructor; that is safe, for it shuts out no behaviour the manual gives. -/
inductive Fault where
  deriving DecidableEq, Repr

/-- Why a step is refused. -/
inductive Refusal where
  /-- A command with no meaning in this model. No arm of `exec` answers it; were one to, it would be safe: nothing
  could be proved of that command. -/
  | notModelled (mnemonic : String)
  deriving DecidableEq, Repr

/-- Every block at the values it takes at a part-wide reset, before RESET_DONE is raised: R6, R36, R59, R46, R51,
R81, R124, R125, R149, R158, R160 to R163, R165. -/
def State.cleared : State where
  lrx := { lock := .search, goodRun := 0, badRun := 0, silence := none, receiving := false }
  frames := []
  store := []
  lsq := { bound := none, expected := 0, lastShown := none, underrunNoticed := false,
           coastingNoticed := false, cadence := 0, lfsr := 0xACE1 }
  cfs := { staging := Bank.default, active := none, commitPending := none }
  otg := { output := .off, holdPending := none, stopPending := false, holdPosition := .none,
           linePosition := 0, waitCount := 0, frameNumber := 0, phase := .idle }
  ovc := { glyphs := [], palette := [], palettePending := [] }
  mge := { commands := [], session := none, lastEpoch := none, cache := [], resetPending := false,
           resetCause := .powerOn }
  rlt := { replies := [], notices := [], lost := 0, consecutive := 0, mask := 0, lane := .idle }
  ctb := { counters := Vector.replicate 14 0 }
  resetHeld := false
  powerOns := 0
  choices := 0
  pending := []

/-- The machine right after a power-on reset: every block at its reset values, and the RESET_DONE notice, detail 0
and frame number 0, on the lane (R164, section 11.1 step 0; log entry 16). -/
def State.reset : State :=
  { State.cleared with
    rlt.lane := .busy (.notice { kind := .resetDone, detail := 0, frame := 0 } 0) 0 }

end Sys2Proof.Machine
end

