-- ==== Sys2Proof/Machine/Flags.lean ====
section
/-! DEFINITION. The anomaly counters (R165), the notices and their mask (R161, R162), and the small flag bytes of the
status record (Table 9-4). -/

namespace Sys2Proof.Machine

/-! ### Counters -/

/-- The index of a counter in Table 10-4. -/
def Counter.index : Counter → Fin 14
  | .badPacket => 0
  | .mgmtDropped => 1
  | .orphanLine => 2
  | .orderLine => 3
  | .overflowLine => 4
  | .damagedLine => 5
  | .widthMismatch => 6
  | .staleLine => 7
  | .missingLine => 8
  | .excessLine => 9
  | .abandonedFrame => 10
  | .coastedFrame => 11
  | .sequenceError => 12
  | .linkLoss => 13

/-- The value of a counter. -/
def Ctb.get (b : Ctb) (c : Counter) : Word16 := b.counters[c.index]

/-- Count a counter once: it rises by 1 and stays at 65535 (R165). -/
def Ctb.count (b : Ctb) (c : Counter) : Ctb :=
  { counters := b.counters.set c.index (satInc (b.get c)) }

/-- Count a counter `n` times. -/
def Ctb.countTimes (b : Ctb) (c : Counter) : Nat → Ctb
  | 0 => b
  | n + 1 => (b.count c).countTimes c n

/-- Every counter at 0 (R166 with flag 1). -/
def Ctb.zero : Ctb := { counters := Vector.replicate 14 0 }

/-- Count a counter once. -/
def State.count (s : State) (c : Counter) : State := { s with ctb := s.ctb.count c }

/-- Count a counter `n` times. -/
def State.countTimes (s : State) (c : Counter) (n : Nat) : State := { s with ctb := s.ctb.countTimes c n }

/-! ### Notices -/

/-- The number of a notice kind (Table 10-3). -/
def NoticeKind.number : NoticeKind → Nat
  | .resetDone => 1
  | .linkLocked => 2
  | .linkLost => 3
  | .commitApplied => 4
  | .holdReached => 5
  | .outputStopped => 6
  | .underrun => 7
  | .overflow => 8
  | .frameAbandoned => 9
  | .coasting => 10
  | .sessionExpired => 11

/-- Whether the mask keeps a notice of this kind from being raised; RESET_DONE has no bit (R161). -/
def masked (mask : Word16) (k : NoticeKind) : Bool :=
  match k with
  | .resetDone => false
  | k => mask.getLsbD k.number

/-- Offer a raised notice to the notice queue (R162): it joins the tail, or is added to the lost-notice count. -/
def Rlt.offer (r : Rlt) (n : Notice) : Rlt :=
  if r.notices.length < Config.noticeQueueSize then { r with notices := r.notices ++ [n] }
  else { r with lost := satInc r.lost }

/-- Come to raise a notice (R161): consult the mask, form the notice with the frame number current at this event,
offer it. -/
def Rlt.raise (r : Rlt) (k : NoticeKind) (detail : Word16) (frame : Word32) : Rlt :=
  if masked r.mask k then r else r.offer { kind := k, detail := detail, frame := frame }

/-- Come to raise a notice in a state. -/
def State.raise (s : State) (k : NoticeKind) (detail : Word16) : State :=
  { s with rlt := s.rlt.raise k detail s.otg.frameNumber }

/-- A tag or cause as a notice detail. -/
def detailOf (b : Byte) : Word16 := b.setWidth 16

/-! ### Codes of the status record (Table 9-4) and of replies (Table 9-3) -/

/-- The reset cause as a number (R155). -/
def ResetCause.number : ResetCause → Nat
  | .powerOn => 0
  | .pin => 1
  | .device => 2

/-- The output state as a number (Table 9-4, byte 9). -/
def OutputState.number : OutputState → Nat
  | .off => 0
  | .waitFrame => 1
  | .active => 2
  | .held => 3

/-- The hold kind as a number (R90). -/
def HoldKind.number : HoldKind → Nat
  | .line => 0
  | .frame => 1

/-- Table 9-4, byte 10: hold pending in bits 1-0, stop pending in bit 2, hold position in bits 4-3. -/
def Otg.requestByte (o : Otg) : Byte :=
  let hold := match o.holdPending with
    | none => 0
    | some .line => 1
    | some .frame => 2
  let position := match o.holdPosition with
    | .none => 0
    | .midFrame _ => 1
    | .boundary => 2
  BitVec.ofNat 8 (hold + (if o.stopPending then 4 else 0) + position * 8)

/-- Table 9-4, byte 15: bit 0 active bank empty, bit 1 commit pending. -/
def Cfs.configurationByte (c : Cfs) : Byte :=
  BitVec.ofNat 8 ((if c.active.isNone then 1 else 0) + (if c.commitPending.isSome then 2 else 0))

/-- Reply status codes (Table 9-3). -/
def Status.code : Status → Byte
  | .done => 0
  | .accepted => 1
  | .noSession => 2
  | .staleEpoch => 3
  | .unknownCommand => 4
  | .badArgument => 5
  | .stageLocked => 6
  | .invalidStage => 7
  | .full => 8
  | .wrongState => 9
  | .tagConflict => 10

end Sys2Proof.Machine
end

