-- ==== Sys2Proof/Machine/Intake.lean ====
section
/-! DEFINITION. The Line Intake and the Line Store: frame marks, the checks on arriving lines, readiness, abandonment,
flushes (chapter 2). -/

namespace Sys2Proof.Machine

/-- The oldest record of a tag in the input frame list (no two share one, R17). -/
def State.frame? (s : State) (t : Byte) : Option FrameRecord := s.frames.find? (·.tag == t)

/-- Change the record of a tag where it stands (R17: a record does not move within the list). -/
def updateFrame (t : Byte) (f : FrameRecord → FrameRecord) (frames : List FrameRecord) : List FrameRecord :=
  frames.map fun r => if r.tag = t then f r else r

/-- A record as an OPEN creates it (R18). -/
def FrameRecord.opened (t : Byte) : FrameRecord where
  tag := t
  state := .openReceiving
  bound := false
  highest := none
  stored := 0
  overflowNoticed := false

/-- Readiness of an unbound record under PRIME (R23). -/
def FrameRecord.ready (r : FrameRecord) (prime : Nat) : Bool :=
  !r.bound && (r.state == .closed || decide (prime ≤ r.stored))

/-- The line records of a frame in the line store. -/
def linesOf (t : Byte) (store : List LineRecord) : List LineRecord := store.filter (·.tag == t)

/-- Flush one frame (R32): its line records leave the store and its record leaves the list. -/
def State.flushFrame (s : State) (t : Byte) : State :=
  { s with
    store := s.store.filter (fun l => !(l.tag == t))
    frames := s.frames.filter (fun r => !(r.tag == t)) }

/-- Abandon the unbound record of a tag (R21). -/
def State.abandon (s : State) (t : Byte) : State :=
  ((s.flushFrame t).count .abandonedFrame).raise .frameAbandoned (detailOf t)

/-- The oldest unbound record (R20, R24). -/
def State.oldestUnbound (s : State) : Option FrameRecord := s.frames.find? (fun r => !r.bound)

/-- When the list is full, abandon the oldest unbound record (R20, first step). -/
def State.makeRoom (s : State) : State :=
  if s.frames.length < Config.frameListSize then s
  else match s.oldestUnbound with
    | some r => s.abandon r.tag
    | none => s

/-- An OPEN arrives (R19, R20). -/
def State.openArrival (s : State) (t : Byte) : State :=
  if s.otg.output = .off then s
  else if (s.frame? t).isSome then s.count .sequenceError
  else { s.makeRoom with frames := s.makeRoom.frames ++ [FrameRecord.opened t] }

/-- A CLOSE arrives (R19, R22). -/
def State.closeArrival (s : State) (t : Byte) : State :=
  if s.otg.output = .off then s
  else match s.frame? t with
    | some r =>
      if r.state = .openReceiving then
        { s with frames := updateFrame t (fun r => { r with state := .closed }) s.frames }
      else s.count .sequenceError
    | none => s.count .sequenceError

/-- A line that finds the store full (R27): its number still becomes the highest received. -/
def State.lineOverflow (s : State) (r : FrameRecord) (number : Nat) : State :=
  let s1 := s.count .overflowLine
  let s2 := if r.overflowNoticed then s1 else s1.raise .overflow (detailOf r.tag)
  { s2 with
    frames := updateFrame r.tag (fun r => { r with highest := some number, overflowNoticed := true }) s.frames }

/-- Append a line (R28): DAMAGED_LINE and WIDTH_MISMATCH are counted as they apply. -/
def State.lineAppend (s : State) (l : LineRecord) : State :=
  let s1 := if l.damaged then s.count .damagedLine else s
  let s2 := match s.cfs.active with
    | some b => if l.pixels.length = b.raster.width then s1 else s1.count .widthMismatch
    | none => s1
  { s2 with
    store := s.store ++ [l]
    frames := updateFrame l.tag (fun r => { r with highest := some l.number, stored := r.stored + 1 }) s.frames }

/-- A LINE arrives: the checks of Table 2-2 in order (R19, R26, R27, R28). -/
def State.lineArrival (s : State) (l : LineRecord) : State :=
  if s.otg.output = .off then s
  else match s.frame? l.tag with
    | none => s.count .orphanLine
    | some r =>
      if r.state = .closed then s.count .orphanLine
      else if r.highest.any (fun h => decide (l.number ≤ h)) then s.count .orderLine
      else if Config.lineStoreSize ≤ s.store.length then s.lineOverflow r l.number
      else s.lineAppend l

/-- The bound frame is released (R25, R73): its record and its lines leave, each line counted EXCESS_LINE. -/
def State.release (s : State) : State :=
  match s.lsq.bound with
  | none => s
  | some t =>
    { (s.flushFrame t).countTimes .excessLine (linesOf t s.store).length with lsq.bound := none }

/-- Mark the record of a tag bound, in the list and in the Line Sequencer (R24, R60); a frame start that binds sets
the coasting noticed flag to no (R64). -/
def State.bindFrame (s : State) (t : Byte) : State :=
  { s with
    frames := updateFrame t (fun r => { r with bound := true }) s.frames
    lsq := { s.lsq with bound := some t, coastingNoticed := false } }

/-- Under LOCKED, the unbound records older than the oldest ready one are abandoned, oldest first (R24). -/
def State.abandonOlder (s : State) (prime : Nat) : State :=
  ((s.frames.takeWhile (fun r => !r.ready prime)).filter (fun r => !r.bound)).foldl
    (fun s r => s.abandon r.tag) s

end Sys2Proof.Machine
end

