-- ==== Sys2Proof/Machine/Bits.lean ====
section
/-! DEFINITION. Checks, byte order and bit packing: the header check of R2, the 32-bit check of R3, fields of more
than one byte (most significant byte first, 00_scope.md, Conventions), pattern bits (R126). -/

namespace Sys2Proof.Machine

/-- Byte `i` of a list, 0 beyond its end. -/
def byteAt (bytes : List Byte) (i : Nat) : Byte := bytes.getD i 0

/-- Two bytes from `i` on, as a number, most significant first. -/
def natAt2 (bytes : List Byte) (i : Nat) : Nat := (byteAt bytes i).toNat * 256 + (byteAt bytes (i + 1)).toNat

/-- Two bytes from `i` on, as a 16-bit register, most significant first. -/
def wordAt2 (bytes : List Byte) (i : Nat) : Word16 := byteAt bytes i ++ byteAt bytes (i + 1)

/-- Four bytes from `i` on, as a 32-bit register, most significant first. -/
def wordAt4 (bytes : List Byte) (i : Nat) : Word32 := wordAt2 bytes i ++ wordAt2 bytes (i + 2)

/-- A number as one byte. -/
def byteOf (n : Nat) : Byte := BitVec.ofNat 8 n

/-- A number as two bytes, most significant first. -/
def natBytes2 (n : Nat) : List Byte := [byteOf (n / 256), byteOf n]

/-- A 16-bit register as two bytes, most significant first. -/
def wordBytes2 (w : Word16) : List Byte := [w.extractLsb' 8 8, w.extractLsb' 0 8]

/-- A 32-bit register as four bytes, most significant first. -/
def wordBytes4 (w : Word32) : List Byte :=
  [w.extractLsb' 24 8, w.extractLsb' 16 8, w.extractLsb' 8 8, w.extractLsb' 0 8]

/-- A Boolean as a bit. -/
def bit (b : Bool) : Nat := if b then 1 else 0

/-! ### The header check (R2) -/

/-- One bit of the header check: the register shifts left; 1021h is combined when the incoming bit differs from the
register's most significant bit. -/
def headerCheckBit (reg : Word16) (b : Bool) : Word16 :=
  if b != reg.msb then (reg <<< 1) ^^^ 0x1021 else reg <<< 1

/-- One byte of the header check, most significant bit first. -/
def headerCheckByte (reg : Word16) (x : Byte) : Word16 :=
  [7, 6, 5, 4, 3, 2, 1, 0].foldl (fun r i => headerCheckBit r (x.getLsbD i)) reg

/-- The header check of R2: the register starts at FFFFh, with no final inversion. -/
def headerCheck (bytes : List Byte) : Word16 := bytes.foldl headerCheckByte 0xFFFF

/-! ### The 32-bit check (R3) -/

/-- One bit of the 32-bit check: the register shifts right; EDB88320h is combined when the incoming bit differs from
the register's least significant bit. -/
def payloadCheckBit (reg : Word32) (b : Bool) : Word32 :=
  if b != reg.getLsbD 0 then (reg >>> 1) ^^^ 0xEDB88320 else reg >>> 1

/-- One byte of the 32-bit check, least significant bit first. -/
def payloadCheckByte (reg : Word32) (x : Byte) : Word32 :=
  [0, 1, 2, 3, 4, 5, 6, 7].foldl (fun r i => payloadCheckBit r (x.getLsbD i)) reg

/-- The payload check of R3, also the check of return-lane messages (R159): the register starts at FFFFFFFFh and is
inverted at the end. -/
def payloadCheck (bytes : List Byte) : Word32 := ~~~ (bytes.foldl payloadCheckByte 0xFFFFFFFF)

/-! ### Pixels -/

/-- A pixel from its red, green and blue bytes. -/
def pixelOf (r g b : Byte) : Pixel := r ++ g ++ b

/-- The red byte of a pixel. -/
def red (p : Pixel) : Byte := p.extractLsb' 16 8
/-- The green byte of a pixel. -/
def green (p : Pixel) : Byte := p.extractLsb' 8 8
/-- The blue byte of a pixel. -/
def blue (p : Pixel) : Byte := p.extractLsb' 0 8

/-- The pixels of a LINE payload or of palette arguments: three bytes each, red, green, blue (Table 1-1). -/
def pixelsOf : List Byte → List Pixel
  | r :: g :: b :: rest => pixelOf r g b :: pixelsOf rest
  | _ => []

/-! ### Bit sequences (R126) -/

/-- The number of bytes that hold `n` bits. -/
def bytesForBits (n : Nat) : Nat := (n + 7) / 8

/-- Eight bits as a byte, the first in bit 7; missing bits are 0. -/
def byteOfBits (bits : List Bool) : Byte :=
  byteOf (bit (bits.getD 0 false) * 128 + bit (bits.getD 1 false) * 64 + bit (bits.getD 2 false) * 32
    + bit (bits.getD 3 false) * 16 + bit (bits.getD 4 false) * 8 + bit (bits.getD 5 false) * 4
    + bit (bits.getD 6 false) * 2 + bit (bits.getD 7 false))

/-- A bit sequence as bytes: position 0 is bit 7 of the first byte, position 8 is bit 7 of the second. -/
def packBits (bits : List Bool) : List Byte :=
  (List.range (bytesForBits bits.length)).map fun i => byteOfBits (bits.drop (8 * i))

/-- Positions 0..length-1 of the bits carried by `bytes`. -/
def unpackBits (length : Nat) (bytes : List Byte) : List Bool :=
  (List.range length).map fun i => (byteAt bytes (i / 8)).getLsbD (7 - i % 8)

end Sys2Proof.Machine
end

