-- ==== Sys2Proof/Machine/Lane.lean ====
section
/-! DEFINITION. The return lane: the messages and their bytes (R159), the lane arbiter (R163), and the settling of a
lane that was idle when replies or notices joined. -/

namespace Sys2Proof.Machine

/-! ### Messages (Tables 10-1 and 10-2) -/

/-- Bytes 0..9+d of a REPLY. -/
def Reply.bytes (r : Reply) : List Byte :=
  [1, r.tag] ++ wordBytes2 r.epoch ++ [r.code, r.status.code, byteOf (bit r.replayed), r.detail]
    ++ natBytes2 r.data.length ++ r.data

/-- Bytes 0..8 of a NOTICE. -/
def Notice.bytes (n : Notice) (lost : Byte) : List Byte :=
  [2, byteOf n.kind.number] ++ wordBytes4 n.frame ++ wordBytes2 n.detail ++ [lost]

/-- The bytes of a message before its check. -/
def Message.body : Message → List Byte
  | .reply r => r.bytes
  | .notice n lost => n.bytes lost

/-- A message as sent: its bytes and the 4-byte check over them (R159). -/
def Message.bytes (m : Message) : List Byte := m.body ++ wordBytes4 (payloadCheck m.body)

/-- How many byte times a message occupies the lane (R159): 14 + d for a REPLY, 13 for a NOTICE. -/
def Message.length : Message → Nat
  | .reply r => 14 + r.data.length
  | .notice _ _ => 13

/-- What the lane carries in one byte time (R159). -/
inductive LaneSymbol where
  | idle
  | startMarked (b : Byte)
  | data (b : Byte)
  deriving DecidableEq, Repr

/-- The symbol on the lane in the present byte time: the first byte of a message is start-marked. -/
def Lane.symbol : Lane → LaneSymbol
  | .idle => .idle
  | .busy m 0 => .startMarked (byteAt m.bytes 0)
  | .busy m (k + 1) => .data (byteAt m.bytes (k + 1))

/-- Whether the lane is busy (R163). -/
def Lane.isBusy : Lane → Bool
  | .idle => false
  | .busy _ _ => true

/-! ### The arbiter (R163) -/

/-- The lane-taken event of the oldest reply: it leaves its queue, and the consecutive-reply count rises, holding at 4. -/
def Rlt.sendReply (r : Rlt) : Rlt :=
  match r.replies with
  | [] => r
  | x :: rest => { r with replies := rest, consecutive := min (r.consecutive + 1) 4, lane := .busy (.reply x) 0 }

/-- The lane-taken event of the oldest notice: it leaves its queue with the lost-notice count, which becomes 0 (R162);
the consecutive-reply count becomes 0. -/
def Rlt.sendNotice (r : Rlt) : Rlt :=
  match r.notices with
  | [] => r
  | n :: rest => { r with notices := rest, lost := 0, consecutive := 0, lane := .busy (.notice n r.lost) 0 }

/-- Whether the RESET_DONE of a part-wide reset is the oldest waiting notice. A reset empties both queues before it raises
it, so nothing older can wait beside it (R164). -/
def Rlt.resetDoneWaits (r : Rlt) : Bool := r.notices.head?.any (fun n => n.kind == .resetDone)

/-- The choice on a free lane, by the table of R163; a waiting RESET_DONE is the first message to take the lane after its
reset, whatever replies have been queued since (R164; log entry 24). -/
def Rlt.arbitrate (r : Rlt) : Rlt :=
  match r.notices, r.replies with
  | [], [] => r
  | [], _ :: _ => r.sendReply
  | _ :: _, [] => r.sendNotice
  | _ :: _, _ :: _ => if r.consecutive = 4 ∨ r.resetDoneWaits = true then r.sendNotice else r.sendReply

/-- Whether a reply and a notice have joined the queues of an idle lane in one step; RESET_DONE leaves no choice (R164). -/
def Rlt.joinTogether (r : Rlt) : Bool :=
  !r.lane.isBusy && !r.notices.isEmpty && !r.replies.isEmpty && !r.resetDoneWaits

/-- The choice at the joins of one step. A busy lane is not touched. On an idle lane both queues were empty before
the step, so what stands there has joined in it; where both a reply and a notice did, either may be taken first:
the `n`-th free choice (log entry 8). -/
def Rlt.settle (r : Rlt) (n : Nat) : Rlt :=
  if r.lane.isBusy then r
  else if r.joinTogether then (if Config.replyFirst n then r.sendReply else r.sendNotice)
  else r.arbitrate

/-- End a step: the arbiter acts on what joined an idle lane (R163). -/
def State.settle (s : State) : State :=
  { s with
    rlt := s.rlt.settle s.choices
    choices := if s.rlt.joinTogether then s.choices + 1 else s.choices }

/-- A reply joins the tail of the reply queue (R160). -/
def State.queueReply (s : State) (r : Reply) : State := { s with rlt.replies := s.rlt.replies ++ [r] }

end Sys2Proof.Machine
end

