-- ==== Sys2Proof/Machine/Operands.lean ====
section
/-! DEFINITION. The fields of a management command (Table 9-1) and the encodings of staged items in both directions
(section 8.2, R126, R128 to R132): what a staging command carries and what READ_CONFIG returns. -/

namespace Sys2Proof.Machine

/-! ### The management payload (R143) -/

/-- Bytes 0-1: the epoch the command was written for. -/
def Command.epoch (c : Command) : Word16 := wordAt2 c.payload 0
/-- Byte 2: the tag. -/
def Command.tag (c : Command) : Byte := byteAt c.payload 2
/-- Byte 3: the command code. -/
def Command.code (c : Command) : Byte := byteAt c.payload 3
/-- Bytes 4 onward: the arguments. -/
def Command.args (c : Command) : List Byte := c.payload.drop 4

/-! ### Raster encoding (Table 8-1) -/

/-- Byte 18 of the raster encoding. -/
def Raster.modesByte (r : Raster) : Byte :=
  byteOf (bit (r.linePolarity = .activeLow) + bit (r.framePolarity = .activeLow) * 2 + bit r.clockIdle * 4
    + bit (r.syncMode = .free) * 8 + bit (r.missingPolicy = .fill) * 16
    + bit (r.damagedPolicy = .asMissing) * 32)

/-- Byte 25 of the raster encoding, and byte 6 of an entry: an index, or FFh. -/
def optionByte : Option Nat → Byte
  | none => 0xFF
  | some i => byteOf i

/-- The 26-byte raster encoding. -/
def encodeRaster (r : Raster) : List Byte :=
  natBytes2 r.width ++ natBytes2 r.height ++ natBytes2 r.hStart ++ natBytes2 r.vStart
    ++ natBytes2 r.lineTotal ++ natBytes2 r.frameTotal ++ natBytes2 r.linePulseStart
    ++ [byteOf r.linePulseWidth] ++ natBytes2 r.framePulseStart ++ [byteOf r.framePulseWidth, r.modesByte,
    byteOf r.prime] ++ natBytes2 r.coastLimit
    ++ [red r.background, green r.background, blue r.background, optionByte r.blankClock]

/-- A pattern index 0..15, or FFh for none; any other byte is outside the encoding. -/
def decodeOptionIndex (b : Byte) : Option (Option Nat) :=
  if b = 0xFF then some none else if b.toNat ≤ 15 then some (some b.toNat) else none

/-- Read a raster encoding, refusing what R128 refuses: a length other than 26, a two-byte field above 4095, bit 6 or
bit 7 of the modes byte, a blank-line clock byte that is neither 0..15 nor FFh. -/
def decodeRaster (b : List Byte) : Option Raster :=
  let modes := byteAt b 18
  if b.length = 26 ∧ [0, 2, 4, 6, 8, 10, 12, 15, 20].all (fun i => natAt2 b i ≤ 4095)
      ∧ modes.getLsbD 6 = false ∧ modes.getLsbD 7 = false then
    match decodeOptionIndex (byteAt b 25) with
    | none => none
    | some blank => some {
        width := natAt2 b 0
        height := natAt2 b 2
        hStart := natAt2 b 4
        vStart := natAt2 b 6
        lineTotal := natAt2 b 8
        frameTotal := natAt2 b 10
        linePulseStart := natAt2 b 12
        linePulseWidth := (byteAt b 14).toNat
        linePolarity := if modes.getLsbD 0 then .activeLow else .activeHigh
        framePulseStart := natAt2 b 15
        framePulseWidth := (byteAt b 17).toNat
        framePolarity := if modes.getLsbD 1 then .activeLow else .activeHigh
        clockIdle := modes.getLsbD 2
        syncMode := if modes.getLsbD 3 then .free else .locked
        prime := (byteAt b 19).toNat
        coastLimit := natAt2 b 20
        background := pixelOf (byteAt b 22) (byteAt b 23) (byteAt b 24)
        missingPolicy := if modes.getLsbD 4 then .fill else .repeatLast
        damagedPolicy := if modes.getLsbD 5 then .asMissing else .showLine
        blankClock := blank }
  else none

/-! ### Program entry encoding (Table 8-2) -/

/-- Byte 2: the action. -/
def Action.code : Action → Byte
  | .showLine => 0
  | .showThin => 1
  | .repeatLine => 2
  | .fill => 3

/-- The action a byte names. -/
def decodeAction (b : Byte) : Option Action :=
  if b = 0 then some .showLine else if b = 1 then some .showThin else if b = 2 then some .repeatLine
  else if b = 3 then some .fill else none

/-- The 9-byte entry encoding. -/
def encodeEntry (e : Entry) : List Byte :=
  natBytes2 e.runLength ++ [e.action.code, byteOf e.thinDivisor, byteOf (bit (e.phaseMode = .seeded)),
    byteOf e.patternA, optionByte e.patternB, byteOf (bit e.invert), e.windowMask]

/-- Read an entry encoding, refusing what R129 refuses: a run length outside 1..2048, an action above 3, a phase mode
above 1, a pattern A above 15, a pattern B that is neither 0..15 nor FFh, an invert byte above 1. -/
def decodeEntry (b : List Byte) : Option Entry :=
  if b.length = 9 ∧ 1 ≤ natAt2 b 0 ∧ natAt2 b 0 ≤ 2048 ∧ (byteAt b 4).toNat ≤ 1 ∧ (byteAt b 5).toNat ≤ 15
      ∧ (byteAt b 7).toNat ≤ 1 then
    match decodeAction (byteAt b 2), decodeOptionIndex (byteAt b 6) with
    | some action, some patternB => some {
        runLength := natAt2 b 0
        action := action
        thinDivisor := (byteAt b 3).toNat
        phaseMode := if byteAt b 4 = 1 then .seeded else .zero
        patternA := (byteAt b 5).toNat
        patternB := patternB
        invert := byteAt b 7 = 1
        windowMask := byteAt b 8 }
    | _, _ => none
  else none

/-- The entries of 9 bytes each that `b` carries; `none` when one is faulty or the bytes do not divide (R129). -/
def decodeEntries : Nat → List Byte → Option (List Entry)
  | 0, b => if b.isEmpty then some [] else none
  | m + 1, b =>
    match decodeEntry (b.take 9), decodeEntries m (b.drop 9) with
    | some e, some es => some (e :: es)
    | _, _ => none

/-! ### Pattern slot encoding (R126) -/

/-- The kind byte of a defined slot. -/
def PatternKind.code : PatternKind → Byte
  | .level => 0
  | .gate => 1

/-- A slot's encoding: index, kind, length and bits; index and FFh when undefined. -/
def encodePattern (slot : Nat) : Option Pattern → List Byte
  | none => [byteOf slot, 0xFF]
  | some p => [byteOf slot, p.kind.code, byteOf p.bits.length] ++ packBits p.bits

/-- Read a slot's encoding: the slot index with the pattern, or `none` for an undefine; refusing what R131 refuses. -/
def decodePattern (b : List Byte) : Option (Nat × Option Pattern) :=
  let slot := (byteAt b 0).toNat
  let kind := byteAt b 1
  let length := (byteAt b 2).toNat
  if b.length < 2 ∨ 15 < slot then none
  else if kind = 0xFF then (if b.length = 2 then some (slot, none) else none)
  else if (kind = 0 ∨ kind = 1) ∧ 1 ≤ length ∧ length ≤ 64 ∧ b.length = 3 + bytesForBits length then
    some (slot, some { kind := if kind = 1 then .gate else .level, bits := unpackBits length (b.drop 3) })
  else none

/-! ### Window record encoding (Table 8-3) -/

/-- The 18-byte window record encoding; an absent key reads back as key present 0 and key 0 (R134). -/
def encodeWindow (w : Window) : List Byte :=
  [byteOf w.id] ++ natBytes2 w.x ++ natBytes2 w.y ++ natBytes2 w.width ++ natBytes2 w.height
    ++ natBytes2 w.glyphBase ++ natBytes2 w.stride
    ++ [byteOf w.depth, byteOf w.paletteBase, byteOf (bit w.key.isSome), byteOf (w.key.getD 0), byteOf w.weight]

/-- Read a window record, refusing a field outside Table 8-3; the key byte is not looked at when the key present
byte is 0 (R132). -/
def decodeWindow (b : List Byte) : Option Window :=
  if b.length = 18 ∧ (byteAt b 0).toNat ≤ 7 ∧ natAt2 b 1 ≤ 2047 ∧ natAt2 b 3 ≤ 2047
      ∧ 1 ≤ natAt2 b 5 ∧ natAt2 b 5 ≤ 2048 ∧ 1 ≤ natAt2 b 7 ∧ natAt2 b 7 ≤ 2048
      ∧ natAt2 b 9 ≤ 16383 ∧ 1 ≤ natAt2 b 11 ∧ natAt2 b 11 ≤ 2048
      ∧ (byteAt b 13 = 1 ∨ byteAt b 13 = 2 ∨ byteAt b 13 = 4 ∨ byteAt b 13 = 8)
      ∧ (byteAt b 15).toNat ≤ 1 ∧ 1 ≤ (byteAt b 17).toNat ∧ (byteAt b 17).toNat ≤ 8 then
    some {
      id := (byteAt b 0).toNat
      x := natAt2 b 1
      y := natAt2 b 3
      width := natAt2 b 5
      height := natAt2 b 7
      glyphBase := natAt2 b 9
      stride := natAt2 b 11
      depth := (byteAt b 13).toNat
      paletteBase := (byteAt b 14).toNat
      key := if byteAt b 15 = 1 then some (byteAt b 16).toNat else none
      weight := (byteAt b 17).toNat }
  else none

/-! ### Reading an item of a bank (Table 8-4) -/

/-- The data READ_CONFIG returns for item `item` with selection bytes `sel`; `none` for an item above 4 or a selection
of the wrong length or range (R134). -/
def readItem (item : Byte) (sel : List Byte) : Option (Bank → List Byte) :=
  match item.toNat, sel with
  | 0, [] => some fun b => encodeRaster b.raster
  | 1, [] => some fun b => [byteOf b.programLength]
  | 2, [first, count] =>
    if first.toNat ≤ 63 ∧ 1 ≤ count.toNat ∧ count.toNat ≤ 28 ∧ first.toNat + count.toNat ≤ 64 then
      some fun b => ((b.program.toList.drop first.toNat).take count.toNat).flatMap encodeEntry
    else none
  | 3, [slot] =>
    if slot.toNat ≤ 15 then some fun b => encodePattern slot.toNat (b.patterns.toList.getD slot.toNat none)
    else none
  | 4, [] => some fun b => byteOf b.windows.length :: b.windows.flatMap encodeWindow
  | _, _ => none

end Sys2Proof.Machine
end

