-- ==== Sys2Proof/Machine/Ops.lean ====
section
/-! DEFINITION. Operations that several commands share: the palette and the glyph store, the banks, session close, frame
start, entries to the output states, and the take of a management command. -/

namespace Sys2Proof.Machine

/-- A row of opcode_table.json as an event of the part: it acts when RESET_N is not held low (R158: no other event of
the part is taken until the reset completes) and the state permits it; otherwise nothing happens (log entry 2). The
arbiter acts on what joined the lane (R163). -/
def event (due : State → Bool) (f : State → State) (s : State) : State :=
  if !s.resetHeld && due s then (f s).settle else s

/-! ### Glyph store and palette -/

/-- The byte at a glyph store address: what was written there, or the unknown byte of the last power-on (R118). -/
def State.glyphByte (s : State) (a : Nat) : Byte :=
  (Cells.read? s.ovc.glyphs a).getD (Config.glyphUnknown s.powerOns a)

/-- The colour of a palette entry: what was written there, or the unknown colour of the last power-on (R121). -/
def State.paletteColour (s : State) (i : Nat) : Pixel :=
  (Cells.read? s.ovc.palette i).getD (Config.paletteUnknown s.powerOns i)

/-- Write one palette item (R123). -/
def applyItem (palette : List (Nat × Pixel)) (item : PaletteItem) : List (Nat × Pixel) :=
  Cells.writeFrom palette item.first item.colours

/-- Apply every pending palette item, oldest first, and empty the list (R123, R124). -/
def Ovc.applyPalette (o : Ovc) : Ovc :=
  { o with palette := o.palettePending.foldl applyItem o.palette, palettePending := [] }

/-! ### Banks -/

/-- The staging bank set equal to the active bank, or to the default configuration when that is empty (R125). -/
def Cfs.restage (c : Cfs) : Cfs := { c with staging := c.active.getD Bank.default }

/-- The Configuration Store at a session close (R141). -/
def Cfs.atSessionClose (c : Cfs) : Cfs := if c.commitPending.isNone then c.restage else c

/-- The application of a commit: the staging bank is copied whole into the active bank (R138). -/
def Cfs.applyCommit (c : Cfs) : Cfs := { c with active := some c.staging, commitPending := none }

/-- If a commit is pending, apply it and raise COMMIT_APPLIED with its tag (R138). -/
def State.applyPendingCommit (s : State) : State :=
  match s.cfs.commitPending with
  | none => s
  | some t => { s with cfs := s.cfs.applyCommit }.raise .commitApplied (detailOf t)

/-- The sync mode of the active bank; an empty active bank governs no raster (R58). -/
def State.syncMode (s : State) : SyncMode :=
  match s.cfs.active with
  | some b => b.raster.syncMode
  | none => .locked

/-- The entries in force of a bank (R38). -/
def Bank.entriesInForce (b : Bank) : List Entry := b.program.toList.take b.programLength

/-- The contents of a pattern slot; `none` when undefined. -/
def Bank.pattern? (b : Bank) (i : Nat) : Option Pattern := b.patterns.toList.getD i none

/-! ### Sessions -/

/-- A session close, whatever its cause (R151): the session becomes CLOSED, the reply cache is emptied, and the
staging bank is set equal to the active bank unless a commit is pending. The last epoch is kept. -/
def State.closeSession (s : State) : State :=
  { s with
    mge := { s.mge with session := none, cache := [] }
    cfs := s.cfs.atSessionClose }

/-! ### The frame start (R61) -/

/-- The LFSR advances once: shifted right, bit 15 the exclusive-or of bits 0, 2, 3 and 5 of the old value (R50). -/
def lfsrAdvance (x : Word16) : Word16 :=
  (x >>> 1) ||| (if (x.getLsbD 0 ^^ x.getLsbD 2 ^^ x.getLsbD 3 ^^ x.getLsbD 5) then 0x8000 else 0)

/-- What every output frame start does before its bind: the frame number rises, the LFSR advances, e, the last-shown
buffer and the underrun noticed flag are set afresh, and line 0 starts next (R61, R83, R99). -/
def State.beginFrame (s : State) : State :=
  { s with
    otg := { s.otg with output := .active, holdPosition := .none, linePosition := 0,
                        frameNumber := s.otg.frameNumber + 1, phase := .lineStartDue }
    lsq := { s.lsq with expected := 0, lastShown := none, underrunNoticed := false,
                        lfsr := lfsrAdvance s.lsq.lfsr } }

/-- A coasted frame start (R64): COASTED_FRAME is counted, and COASTING raised if the flag is no. -/
def State.coast (s : State) : State :=
  let s1 := s.count .coastedFrame
  let s2 := if s.lsq.coastingNoticed then s1 else s1.raise .coasting 0
  { s2 with lsq.coastingNoticed := true }

/-- A frame start in FREE synchronisation: the oldest unbound record is bound, or the frame coasts (R63). -/
def State.frameStartFree (s : State) : State :=
  match s.beginFrame.oldestUnbound with
  | some r => s.beginFrame.bindFrame r.tag
  | none => s.beginFrame.coast

/-- A LOCKED frame start by readiness: the oldest ready record is bound, older unbound ones abandoned (R62, R24). -/
def State.frameStartReady (s : State) (prime : Nat) (t : Byte) : State :=
  (s.beginFrame.abandonOlder prime).bindFrame t

/-- A LOCKED frame start by coast (R62). -/
def State.frameStartCoast (s : State) : State := s.beginFrame.coast

/-! ### Entries to the output states -/

/-- Entry to WAIT_FRAME with wait count 0; the first wait line starts next (R91, R95, R96). The pending palette list is
applied (R124). Table 5-2 gives the line position no meaning in WAIT_FRAME: it is left as it stood, the model's choice
(log entry 25). -/
def State.enterWaitFrame (s : State) : State :=
  { s with
    ovc := s.ovc.applyPalette
    otg := { s.otg with output := .waitFrame, holdPosition := .none, waitCount := 0, phase := .lineStartDue } }

/-- Entry to HELD (R93, R94, R96): the pending palette list is applied (R124), no line is produced, and HOLD_REACHED
is raised with the hold kind. The line position is left as it stood: in a mid-frame hold R94 says so; at BOUNDARY
Table 5-2 gives it no meaning and keeping it is the model's choice (log entry 25). -/
def State.enterHeld (s : State) (kind : HoldKind) (position : HoldPosition) : State :=
  State.raise { s with
    ovc := s.ovc.applyPalette
    otg := { s.otg with output := .held, holdPending := none, holdPosition := position, phase := .idle } }
    .holdReached (BitVec.ofNat 16 kind.number)

/-- Entry to OFF by a stop (R98): a pending commit is applied, the palette list applied, the binding released and the
matching state cleared (R75), the frame list and the line store emptied (R35), the generator's requests and positions
cleared. -/
def State.enterOff (s : State) : State :=
  let s1 := s.applyPendingCommit.release
  { s1 with
    ovc := s1.ovc.applyPalette
    frames := []
    store := []
    lsq := { s1.lsq with bound := none, expected := 0, lastShown := none, underrunNoticed := false,
                         coastingNoticed := false }
    otg := { s1.otg with output := .off, holdPending := none, stopPending := false, holdPosition := .none,
                         linePosition := 0, waitCount := 0, phase := .idle } }

/-! ### The take of a management command (R145 to R148) -/

/-- What a command's own rule gives its reply: status, detail and data (R147). -/
structure Response where
  /-- The status. -/
  status : Status
  /-- The detail byte. -/
  detail : Byte
  /-- The data bytes. -/
  data : List Byte
  deriving DecidableEq, Repr

/-- A response with detail 0 and no data. -/
def Response.plain (st : Status) : Response := { status := st, detail := 0, data := [] }

/-- The reply to a command (R147): tag, epoch and code are copied from the payload. -/
def Command.reply (c : Command) (r : Response) : Reply where
  tag := c.tag
  epoch := c.epoch
  code := c.code
  status := r.status
  replayed := false
  detail := r.detail
  data := r.data

/-- Whether a command is in epoch: a session is open with the command's epoch (R146, step 1). -/
def State.inEpoch (s : State) (c : Command) : Bool := s.mge.session.any (fun x => x.epoch == c.epoch)

/-- The cached record of a tag (R146, step 2). -/
def State.cached? (s : State) (t : Byte) : Option CacheRecord := s.mge.cache.find? (·.tag == t)

/-- Add a record as the youngest; a full cache loses its oldest first (R148). -/
def cacheInsert (cache : List CacheRecord) (r : CacheRecord) : List CacheRecord :=
  (if cache.length < Config.replyCacheSize then cache else cache.drop 1) ++ [r]

/-- Steps 4 and 5 of R146: the reply joins the reply queue, and it is cached when a session is open whose epoch is the
command's. -/
def State.answer (s : State) (c : Command) (r : Response) : State :=
  let s1 := s.queueReply (c.reply r)
  if s1.inEpoch c then
    { s1 with mge.cache := cacheInsert s1.mge.cache { tag := c.tag, fingerprint := c.fingerprint, reply := c.reply r } }
  else s1

/-- A refusal that goes straight to step 4 of R146 and is not cached: NO_SESSION, STALE_EPOCH, TAG_CONFLICT. -/
def State.refuse (s : State) (c : Command) (st : Status) : State := s.queueReply (c.reply (Response.plain st))

/-- What a command's own rule does: the state after it and its response (R146, step 3). -/
abbrev CommandBody := Command → State → State × Response

/-- Steps 3 to 5 of R146. -/
def State.carryOut (s : State) (c : Command) (body : CommandBody) : State :=
  (body c s).1.answer c (body c s).2

/-- Steps 1 to 5 of R146, the command having been removed from the queue. `free` says whether the code is valid out of
epoch: PING, READ_STATUS and OPEN_SESSION. -/
def State.process (s : State) (c : Command) (free : Bool) (body : CommandBody) : State :=
  if s.inEpoch c then
    match s.cached? c.tag with
    | some r =>
      if r.fingerprint = c.fingerprint then s.queueReply { r.reply with replayed := true }
      else s.refuse c .tagConflict
    | none => s.carryOut c body
  else if free then s.carryOut c body
  else s.refuse c (if s.mge.session.isNone then .noSession else .staleEpoch)

/-- The conditions of R145 for a take, the head's code being one that `accepts` names. -/
def State.mayTake (s : State) (accepts : Byte → Bool) : Bool :=
  decide (s.rlt.replies.length < Config.replyQueueSize) && !s.mge.resetPending
    && s.mge.commands.head?.any (fun c => accepts c.code)

/-- Remove the head of the command queue and process it (R146). -/
def State.takeHead (s : State) (free : Bool) (body : CommandBody) : State :=
  match s.mge.commands with
  | [] => s
  | c :: rest => { s with mge.commands := rest }.process c free body

/-- The take of a command of one row of Table 9-2. -/
def take (accepts : Byte → Bool) (free : Bool) (body : CommandBody) : State → State :=
  event (·.mayTake accepts) (·.takeHead free body)

/-- The codes of Table 9-2. -/
def knownCodes : List Byte :=
  [0x01, 0x02, 0x03, 0x04, 0x05, 0x06, 0x10, 0x11, 0x12, 0x13, 0x14, 0x15, 0x16, 0x17, 0x18, 0x19, 0x20, 0x21,
   0x30, 0x31, 0x32, 0x33, 0x40]

end Sys2Proof.Machine
end

