-- ==== Sys2Proof/Machine/Resets.lean ====
section
/-! DEFINITION. The part-wide resets (R157, R158, R164) and their rows: POWER_ON_RESET, PIN_RESET, PIN_RESET_RELEASE,
DEVICE_RESET_EVENT. -/

namespace Sys2Proof.Machine

/-- Every block at its pin-reset values (R158), with a given reset cause and a given lane: the glyph store and the
palette keep their contents, pending palette items are lost (R124). -/
def State.pinValues (s : State) (cause : ResetCause) (lane : Lane) : State :=
  { State.cleared with
    ovc := { s.ovc with palettePending := [] }
    mge := { State.cleared.mge with resetCause := cause }
    rlt := { State.cleared.rlt with lane := lane }
    resetHeld := s.resetHeld
    powerOns := s.powerOns
    choices := s.choices
    pending := s.pending }

/-- The completion of a part-wide reset: the Return Lane Transmitter raises RESET_DONE with the reset cause (R164). -/
def State.resetDone (s : State) : State := s.raise .resetDone (BitVec.ofNat 16 s.mge.resetCause.number)

/-- The device reset (R157), with the lane as the event leaves it: idle at the lane-free event of the DONE reply, the
message still on it at a link reset (R164). -/
def State.deviceReset (s : State) (lane : Lane) : State := (s.pinValues .device lane).resetDone

/-- Whether a reply is the DONE reply to DEVICE_RESET. While the device-reset-pending flag is yes there is exactly one,
because no command is taken (R157). -/
def Reply.isDeviceReset (r : Reply) : Bool := r.code == 0x06 && r.status == .done

/-- Whether that reply is on the lane and its device reset is pending. -/
def State.resetReplyOnLane (s : State) : Bool :=
  s.mge.resetPending && match s.rlt.lane with
    | .busy (.reply r) _ => r.isDeviceReset
    | .busy (.notice _ _) _ => false
    | .idle => false

/-- Whether that reply is still in the reply queue and its device reset is pending (R153). -/
def State.resetReplyQueued (s : State) : Bool :=
  s.mge.resetPending && s.rlt.replies.any (·.isDeviceReset)

/-- The values of a power-on reset (R158, R118, R121): as a pin reset, with reset cause 0 and the contents of the glyph
store and the palette unknown again. The level of RESET_N is the board's and stays (log entry 9). -/
def State.powerOnValues (s : State) : State :=
  { s.pinValues .powerOn .idle with
    ovc := State.cleared.ovc
    powerOns := s.powerOns + 1 }

/-- POWER_ON_RESET. When RESET_N is not low, the reset completes and raises RESET_DONE; while it is low the part stays
held and its release completes a pin reset (log entry 9). -/
def powerOnReset (s : State) : State :=
  if s.resetHeld then s.powerOnValues else s.powerOnValues.resetDone.settle

/-- PIN_RESET: RESET_N low; every block at its reset values, the message on the lane cut off (R158, R164). -/
def pinReset (s : State) : State := { s.pinValues .pin .idle with resetHeld := true }

/-- PIN_RESET_RELEASE: the pin reset completes with reset cause 1, and RESET_DONE is raised (R158, R164). -/
def pinResetRelease (s : State) : State :=
  if s.resetHeld then (State.resetDone { s with resetHeld := false, mge.resetCause := .pin }).settle else s

/-- The meaning of POWER_ON_RESET (R158). -/
def execPowerOnReset (s : State) : Host.Outcome State Fault Refusal := .next (powerOnReset s)

/-- The meaning of PIN_RESET (R158). -/
def execPinReset (s : State) : Host.Outcome State Fault Refusal := .next (pinReset s)

/-- The meaning of PIN_RESET_RELEASE (R158). -/
def execPinResetRelease (s : State) : Host.Outcome State Fault Refusal := .next (pinResetRelease s)

/-- The meaning of DEVICE_RESET_EVENT (R157): the end of transmission of the DONE reply. At a link reset with that reply
still queued the device reset is part of the link reset's own step (`State.linkReset`). -/
def execDeviceResetEvent (s : State) : Host.Outcome State Fault Refusal :=
  .next (event State.resetReplyOnLane (·.deviceReset .idle) s)

end Sys2Proof.Machine
end

