-- ==== Sys2Proof/Machine/LaneEvents.lean ====
section
/-! DEFINITION. LANE_FREE (R163), with the device reset that falls at the lane-free event of its DONE reply (R157). -/

namespace Sys2Proof.Machine

/-- The lane falls free: the device reset, when the message that ended is the DONE reply to DEVICE_RESET and its reset
is pending (R157, R164); otherwise the arbiter chooses the next message (R163). -/
def State.freeLane (s : State) : State :=
  if s.resetReplyOnLane then s.deviceReset .idle
  else { s with rlt := { s.rlt with lane := .idle }.arbitrate }

/-- The lane-free event. -/
def laneFree : State → State := event (·.rlt.lane.isBusy) State.freeLane

/-- The meaning of LANE_FREE (R163). -/
def execLaneFree (s : State) : Host.Outcome State Fault Refusal := .next (laneFree s)

end Sys2Proof.Machine
end

