-- ==== Sys2Proof/Machine/Link.lean ====
section
/-! DEFINITION. The Link Receiver (chapter 1) and the arrivals at the Management Engine: START_SYMBOL,
PACKET_RECEPTION_END, SILENCE_TIMER_EXPIRY, and the link reset that reaches most of the part (Table 1-5). -/

namespace Sys2Proof.Machine

/-! ### Packets (Table 1-1) -/

/-- The header fields of a packet, bytes 0 to 5. -/
structure Header where
  /-- Byte 0. -/
  kind : Nat
  /-- Byte 1. -/
  tag : Byte
  /-- Bytes 2-3. -/
  number : Nat
  /-- Bytes 4-5. -/
  length : Nat
  deriving DecidableEq, Repr

/-- The header of the packet that begins with these bytes. -/
def headerOf (bytes : List Byte) : Header where
  kind := (byteAt bytes 0).toNat
  tag := byteAt bytes 1
  number := natAt2 bytes 2
  length := natAt2 bytes 4

/-- The header check of R2. -/
def headerPasses (bytes : List Byte) : Bool := headerCheck (bytes.take 6) == wordAt2 bytes 6

/-- Table 1-2. -/
def Header.wellFormed (h : Header) : Bool :=
  match h.kind with
  | 1 => h.number == 0 && h.length == 0
  | 2 => decide (h.number ≤ 4095) && decide (3 ≤ h.length) && decide (h.length ≤ 6144) && h.length % 3 == 0
  | 3 => h.tag == 0 && h.number == 0 && h.length == 0
  | 4 => h.number == 0 && h.length == 0
  | 5 => h.tag == 0 && h.number == 0 && decide (4 ≤ h.length) && decide (h.length ≤ 260)
  | _ => false

/-- The bytes of the whole packet: 8 when the payload length is 0, otherwise 8 + payload length + 4 (R1). -/
def Header.packetLength (h : Header) : Nat := if h.length = 0 then 8 else 8 + h.length + 4

/-- The payload bytes. -/
def payloadOf (bytes : List Byte) : List Byte := (bytes.drop 8).take (headerOf bytes).length

/-- The received payload check value, the fingerprint of a MGMT (R3). -/
def receivedCheck (bytes : List Byte) : Word32 := wordAt4 bytes (8 + (headerOf bytes).length)

/-- The payload check of R3; a packet of payload length 0 has none. -/
def payloadPasses (bytes : List Byte) : Bool :=
  (headerOf bytes).length == 0 || payloadCheck (payloadOf bytes) == receivedCheck bytes

/-- Packet classes (Table 1-3). -/
inductive PacketClass where
  | short
  | corrupt
  | malformed
  | truncated
  | payloadFailed
  | good
  deriving DecidableEq, Repr

/-- The class of the packet that a reception of these bytes ends with, by the first row of Table 1-3 that holds (R5).
Bytes past the end that R1 gives the reception are not looked at. -/
def classify (bytes : List Byte) : PacketClass :=
  if bytes.length < 8 then .short
  else if !headerPasses bytes then .corrupt
  else if !(headerOf bytes).wellFormed then .malformed
  else if bytes.length < (headerOf bytes).packetLength then .truncated
  else if !payloadPasses bytes then .payloadFailed
  else .good

/-- The good-header classes (R5). -/
def PacketClass.goodHeader : PacketClass → Bool
  | .payloadFailed => true
  | .good => true
  | .short => false
  | .corrupt => false
  | .malformed => false
  | .truncated => false

/-- The six header bytes before the header check (Table 1-1). -/
def Header.bytes (h : Header) : List Byte := [byteOf h.kind, h.tag] ++ natBytes2 h.number ++ natBytes2 h.length

/-- The bytes of a packet as a source sends it: header, header check, and where the payload length is not 0 the payload
and its check (Table 1-1, R2, R3). -/
def packetBytes (h : Header) (payload : List Byte) : List Byte :=
  h.bytes ++ wordBytes2 (headerCheck h.bytes)
    ++ (if h.length = 0 then [] else payload ++ wordBytes4 (payloadCheck payload))

/-! ### Link reset (R10, Table 1-5) -/

/-- The cause of a link reset (R10). -/
inductive LossCause where
  | badRun
  | silence
  deriving DecidableEq, Repr

/-- The detail of LINK_LOST (R10). -/
def LossCause.detail : LossCause → Word16
  | .badRun => 0
  | .silence => 1

/-- The Link Receiver's own part (R10): SEARCH, both runs 0, timer stopped; LINK_LOST raised, LINK_LOSS counted. -/
def State.loseLock (s : State) (cause : LossCause) : State :=
  State.raise (State.count { s with
    lrx := { s.lrx with lock := .search, goodRun := 0, badRun := 0, silence := none } } .linkLoss)
    .linkLost cause.detail

/-- The responses of the other blocks (R34, R76, R153, R164): input frame list, line store, command queue and reply queue
emptied, binding cleared, session closed with the consequences of R151. -/
def State.dropLink (s : State) : State :=
  let s1 := { s with
    frames := []
    store := []
    lsq := { s.lsq with bound := none }
    mge := { s.mge with commands := [] }
    rlt := { s.rlt with replies := [] } }
  if s.mge.session.isSome then s1.closeSession else s1

/-- A link reset. When the DONE reply to a DEVICE_RESET is still in the reply queue, the device reset happens in the same
event and its values prevail; a message on the lane is sent to its end (R153, R157, R164). -/
def State.linkReset (s : State) (cause : LossCause) : State :=
  if s.resetReplyQueued then (s.loseLock cause).dropLink.deviceReset s.rlt.lane
  else (s.loseLock cause).dropLink

/-! ### Scoring (R7, R8) -/

/-- A bad packet: in SEARCH the good run becomes 0; in LOCKED BAD_PACKET is counted and the bad run rises, and the eighth
raises link reset (R7, R8). -/
def State.scoreBad (s : State) : State :=
  match s.lrx.lock with
  | .search => { s with lrx.goodRun := 0 }
  | .locked =>
    let s1 := s.count .badPacket
    if Config.lossRun ≤ s.lrx.badRun + 1 then s1.linkReset .badRun
    else { s1 with lrx.badRun := s.lrx.badRun + 1 }

/-- A good-header packet in SEARCH: the good run rises; the fourth enters LOCKED, starts the silence timer and raises
LINK_LOCKED. The packet itself is discarded (R7). -/
def State.scoreGoodSearch (s : State) : State :=
  if Config.lockRun ≤ s.lrx.goodRun + 1 then
    State.raise { s with lrx := { s.lrx with lock := .locked, goodRun := 0, badRun := 0, silence := some 0 } }
      .linkLocked 0
  else { s with lrx.goodRun := s.lrx.goodRun + 1 }

/-! ### Routing (R11 to R14) -/

/-- A command arrives at the command queue (R144): it joins the tail, restarting the idle timer when its epoch is the
open session's (R152), or is dropped and counted. -/
def State.commandArrival (s : State) (c : Command) : State :=
  if s.mge.commands.length < Config.commandQueueSize then
    { s with mge := { s.mge with
        commands := s.mge.commands ++ [c]
        session := s.mge.session.map fun x => if x.epoch = c.epoch then { x with idleElapsed := 0 } else x } }
  else s.count .mgmtDropped

/-- Route a good-header packet by kind (Table 1-6). A damaged LINE is handed on; a MGMT whose payload check failed is
discarded and counted BAD_PACKET (R13). A GAP has no further effect (R14). -/
def State.route (s : State) (bytes : List Byte) (damaged : Bool) : State :=
  let h := headerOf bytes
  match h.kind with
  | 1 => s.openArrival h.tag
  | 2 => s.lineArrival { tag := h.tag, number := h.number, damaged := damaged, pixels := pixelsOf (payloadOf bytes) }
  | 4 => s.closeArrival h.tag
  | 5 =>
    if damaged then s.count .badPacket
    else s.commandArrival { payload := payloadOf bytes, fingerprint := receivedCheck bytes }
  | _ => s

/-- The end of a reception: the packet is classified, scored and routed (R5, R7, R8, R11). -/
def State.endReception (s : State) (bytes : List Byte) : State :=
  let s1 : State := { s with lrx.receiving := false }
  if (classify bytes).goodHeader then
    match s.lrx.lock with
    | .search => s1.scoreGoodSearch
    | .locked => State.route { s1 with lrx.badRun := 0 } bytes (classify bytes == .payloadFailed)
  else s1.scoreBad

/-- A start symbol ends a reception in progress, whose packet is short or truncated, so bad (R1, R5). -/
def State.cutReception (s : State) : State := if s.lrx.receiving then s.scoreBad else s

/-- A start symbol begins a reception and, in LOCKED, restarts the silence timer (R1, R9). -/
def State.beginReception (s : State) : State :=
  { s with lrx := { s.lrx with
      receiving := true
      silence := if s.lrx.lock = .locked then some 0 else s.lrx.silence } }

/-! ### Meanings -/

/-- The meaning of START_SYMBOL (R1, R9). -/
def execStartSymbol (s : State) : Host.Outcome State Fault Refusal :=
  .next (event (fun _ => true) (fun s => s.cutReception.beginReception) s)

/-- The meaning of PACKET_RECEPTION_END (R5): with no packet in reception the bytes belong to no packet (R1, R6). -/
def execPacketReceptionEnd (bytes : List Byte) (s : State) : Host.Outcome State Fault Refusal :=
  .next (event (·.lrx.receiving) (·.endReception bytes) s)

/-- The silence timer expires: link reset with cause silence (R9). -/
def silenceTimerExpiry : State → State := event (·.lrx.silence.isSome) (·.linkReset .silence)

/-- The meaning of SILENCE_TIMER_EXPIRY (R9); with the timer stopped there is no expiry. -/
def execSilenceTimerExpiry (s : State) : Host.Outcome State Fault Refusal := .next (silenceTimerExpiry s)

end Sys2Proof.Machine
end

