-- ==== Sys2Proof/Machine/Management.lean ====
section
/-! DEFINITION. The general management commands, sessions, the idle timer and the counters' command: PING, OPEN_SESSION,
CLOSE_SESSION, READ_STATUS, SET_NOTICES, DEVICE_RESET, UNKNOWN_COMMAND, IDLE_TIMER_EXPIRY, READ_COUNTERS. -/

namespace Sys2Proof.Machine

/-! ### PING (R154) -/

/-- PING echoes its arguments and changes nothing (R154). -/
def pingBody : CommandBody := fun c s => (s, { status := .done, detail := 0, data := c.args })

/-- The meaning of PING. -/
def execPing (s : State) : Host.Outcome State Fault Refusal := .next (take (· == 0x01) true pingBody s)

/-! ### OPEN_SESSION (R150) -/

/-- A session opens with epoch `epoch` and an idle limit: the reply cache is emptied, the idle timer starts at 0 and the
last epoch is set (R150, R152). -/
def State.openSession (s : State) (epoch idleLimit : Word16) : State :=
  { s with mge := { s.mge with
      session := some { epoch := epoch, idleLimit := idleLimit, idleElapsed := 0 }
      lastEpoch := some epoch
      cache := [] } }

/-- The table of R150. -/
def openSessionBody : CommandBody := fun c s =>
  let takeover := byteAt c.args 0
  let idleLimit := wordAt2 c.args 1
  if ¬(c.args.length = 3 ∧ takeover.toNat ≤ 1) then (s, Response.plain .badArgument)
  else match s.mge.session with
    | none =>
      if s.mge.lastEpoch = some c.epoch then (s, Response.plain .staleEpoch)
      else (s.openSession c.epoch idleLimit, Response.plain .done)
    | some x =>
      if takeover = 0 ∨ x.epoch = c.epoch then (s, Response.plain .wrongState)
      else (s.closeSession.openSession c.epoch idleLimit, Response.plain .done)

/-- The meaning of OPEN_SESSION. -/
def execOpenSession (s : State) : Host.Outcome State Fault Refusal := .next (take (· == 0x02) true openSessionBody s)

/-! ### CLOSE_SESSION (R151) -/

/-- CLOSE_SESSION closes the session with the consequences of R151. -/
def closeSessionBody : CommandBody := fun c s =>
  if c.args ≠ [] then (s, Response.plain .badArgument) else (s.closeSession, Response.plain .done)

/-- The meaning of CLOSE_SESSION. -/
def execCloseSession (s : State) : Host.Outcome State Fault Refusal := .next (take (· == 0x03) false closeSessionBody s)

/-! ### READ_STATUS (R155) -/

/-- The 30-byte status record (Table 9-4). -/
def State.statusRecord (s : State) : List Byte :=
  [byteOf s.mge.resetCause.number, byteOf (bit s.mge.session.isSome)]
    ++ wordBytes2 ((s.mge.session.map (·.epoch)).getD 0)
    ++ [byteOf (bit s.mge.lastEpoch.isSome)]
    ++ wordBytes2 (s.mge.lastEpoch.getD 0)
    ++ wordBytes2 ((s.mge.session.map (·.idleLimit)).getD 0)
    ++ [byteOf s.otg.output.number, s.otg.requestByte]
    ++ wordBytes4 s.otg.frameNumber
    ++ [s.cfs.configurationByte, s.cfs.commitPending.getD 0,
        byteOf s.mge.commands.length, byteOf s.rlt.replies.length, byteOf s.rlt.notices.length, s.rlt.lost,
        byteOf s.frames.length, byteOf s.store.length,
        byteOf (bit s.lsq.bound.isSome), s.lsq.bound.getD 0, byteOf s.ovc.palettePending.length]
    ++ wordBytes2 s.rlt.mask
    ++ wordBytes2 s.lsq.lfsr

/-- READ_STATUS returns the record as it stands at the take and changes nothing (R155). -/
def readStatusBody : CommandBody := fun c s =>
  if c.args ≠ [] then (s, Response.plain .badArgument)
  else (s, { status := .done, detail := 0, data := s.statusRecord })

/-- The meaning of READ_STATUS. -/
def execReadStatus (s : State) : Host.Outcome State Fault Refusal := .next (take (· == 0x04) true readStatusBody s)

/-! ### SET_NOTICES (R156) -/

/-- The bits that a notice mask may not set: 0, 1 and 12 to 15 (R156, R161). -/
def reservedMaskBits : Word16 := 0xF003

/-- SET_NOTICES replaces the notice mask (R156). -/
def setNoticesBody : CommandBody := fun c s =>
  let mask := wordAt2 c.args 0
  if c.args.length = 2 ∧ mask &&& reservedMaskBits = 0 then ({ s with rlt.mask := mask }, Response.plain .done)
  else (s, Response.plain .badArgument)

/-- The meaning of SET_NOTICES. -/
def execSetNotices (s : State) : Host.Outcome State Fault Refusal := .next (take (· == 0x05) false setNoticesBody s)

/-! ### DEVICE_RESET (R157) -/

/-- DEVICE_RESET sets the device-reset-pending flag; its DONE reply is queued as any reply is (R157). -/
def deviceResetBody : CommandBody := fun c s =>
  if c.args ≠ [] then (s, Response.plain .badArgument)
  else ({ s with mge.resetPending := true }, Response.plain .done)

/-- The meaning of DEVICE_RESET. -/
def execDeviceReset (s : State) : Host.Outcome State Fault Refusal := .next (take (· == 0x06) false deviceResetBody s)

/-! ### UNKNOWN_COMMAND (R146) -/

/-- A command code that Table 9-2 does not list is refused with UNKNOWN_COMMAND (R146, step 3). -/
def unknownCommandBody : CommandBody := fun _ s => (s, Response.plain .unknownCommand)

/-- The meaning of UNKNOWN_COMMAND. -/
def execUnknownCommand (s : State) : Host.Outcome State Fault Refusal :=
  .next (take (fun code => !knownCodes.contains code) false unknownCommandBody s)

/-! ### READ_COUNTERS (R166) -/

/-- The 28 data bytes: the counters in the order of Table 10-4 (R166). -/
def Ctb.bytes (b : Ctb) : List Byte := b.counters.toList.flatMap wordBytes2

/-- READ_COUNTERS returns the counters and, with flag 1, clears them in the same event (R166). -/
def readCountersBody : CommandBody := fun c s =>
  let flag := byteAt c.args 0
  if c.args.length = 1 ∧ flag.toNat ≤ 1 then
    (if flag = 1 then { s with ctb := Ctb.zero } else s, { status := .done, detail := 0, data := s.ctb.bytes })
  else (s, Response.plain .badArgument)

/-- The meaning of READ_COUNTERS. -/
def execReadCounters (s : State) : Host.Outcome State Fault Refusal :=
  .next (take (· == 0x40) false readCountersBody s)

/-! ### The session idle timer (R152) -/

/-- Whether the idle timer of an open session runs: its idle limit is not 0 (R152). -/
def State.idleTimerRuns (s : State) : Bool := s.mge.session.any (fun x => !(x.idleLimit == 0))

/-- The idle timer expires: the session closes with the consequences of R151, and SESSION_EXPIRED carries its epoch. -/
def State.expireSession (s : State) : State :=
  match s.mge.session with
  | none => s
  | some x => s.closeSession.raise .sessionExpired x.epoch

/-- The expiry as an event. -/
def idleTimerExpiry : State → State := event State.idleTimerRuns State.expireSession

/-- The meaning of IDLE_TIMER_EXPIRY (R152). -/
def execIdleTimerExpiry (s : State) : Host.Outcome State Fault Refusal := .next (idleTimerExpiry s)

end Sys2Proof.Machine
end

