-- ==== Sys2Proof/Machine/OutputCommands.lean ====
section
/-! DEFINITION. The output commands (R90 to R95): START_OUTPUT, STOP_OUTPUT, HOLD_OUTPUT, RESUME_OUTPUT. -/

namespace Sys2Proof.Machine

/-! ### START_OUTPUT (R91) -/

/-- START_OUTPUT leaves OFF for WAIT_FRAME under LOCKED, for a frame start under FREE, when the active bank is not
empty; otherwise WRONG_STATE (R91). -/
def startOutputBody : CommandBody := fun c s =>
  if c.args ≠ [] then (s, Response.plain .badArgument)
  else match s.otg.output, s.cfs.active with
    | .off, some b =>
      match b.raster.syncMode with
      | .locked => (s.enterWaitFrame, Response.plain .done)
      | .free => (s.frameStartFree, Response.plain .done)
    | _, _ => (s, Response.plain .wrongState)

/-- The meaning of START_OUTPUT. -/
def execStartOutput (s : State) : Host.Outcome State Fault Refusal := .next (take (· == 0x30) false startOutputBody s)

/-! ### STOP_OUTPUT (R92) -/

/-- A stop becomes pending, cancelling a pending hold (R92). -/
def State.requestStop (s : State) : State :=
  { s with otg := { s.otg with stopPending := true, holdPending := none } }

/-- STOP_OUTPUT by output state (R92). -/
def stopOutputBody : CommandBody := fun c s =>
  if c.args ≠ [] then (s, Response.plain .badArgument)
  else match s.otg.output with
    | .active => if s.otg.stopPending then (s, Response.plain .wrongState) else (s.requestStop, Response.plain .accepted)
    | .waitFrame => (s.enterOff, Response.plain .done)
    | .held => (s.enterOff, Response.plain .done)
    | .off => (s, Response.plain .wrongState)

/-- The meaning of STOP_OUTPUT. -/
def execStopOutput (s : State) : Host.Outcome State Fault Refusal := .next (take (· == 0x31) false stopOutputBody s)

/-! ### HOLD_OUTPUT (R93) -/

/-- The argument of HOLD_OUTPUT: one byte, 0 LINE or 1 FRAME (R90). -/
def decodeHoldArgs (args : List Byte) : Option HoldKind :=
  if args.length = 1 ∧ byteAt args 0 = 0 then some .line
  else if args.length = 1 ∧ byteAt args 0 = 1 then some .frame
  else none

/-- The wait count is discarded (R93). -/
def State.discardWaitCount (s : State) : State := { s with otg.waitCount := 0 }

/-- HOLD_OUTPUT by output state (R93); every reply past the argument check carries the hold kind (R90). -/
def holdOutputBody : CommandBody := fun c s =>
  match decodeHoldArgs c.args with
  | none => (s, Response.plain .badArgument)
  | some kind =>
    let answer (st : Status) : Response := { status := st, detail := byteOf kind.number, data := [] }
    match s.otg.output with
    | .active =>
      if s.otg.holdPending.isSome || s.otg.stopPending then (s, answer .wrongState)
      else ({ s with otg.holdPending := some kind }, answer .accepted)
    | .waitFrame => (s.discardWaitCount.enterHeld kind .boundary, answer .done)
    | .held => (s, answer .wrongState)
    | .off => (s, answer .wrongState)

/-- The meaning of HOLD_OUTPUT. -/
def execHoldOutput (s : State) : Host.Outcome State Fault Refusal := .next (take (· == 0x32) false holdOutputBody s)

/-! ### RESUME_OUTPUT (R95) -/

/-- The frame of a mid-frame hold continues at its resume line, whose line start follows (R95). -/
def State.resumeFrame (s : State) (line : Nat) : State :=
  { s with otg := { s.otg with output := .active, holdPosition := .none, linePosition := line,
                               phase := .lineStartDue } }

/-- RESUME_OUTPUT by output state (R95). -/
def resumeOutputBody : CommandBody := fun c s =>
  if c.args ≠ [] then (s, Response.plain .badArgument)
  else match s.otg.output with
    | .active =>
      if s.otg.holdPending.isSome then ({ s with otg.holdPending := none }, Response.plain .done)
      else (s, Response.plain .wrongState)
    | .held =>
      match s.otg.holdPosition with
      | .midFrame line => (s.resumeFrame line, Response.plain .done)
      | .boundary =>
        match s.syncMode with
        | .locked => (s.enterWaitFrame, Response.plain .done)
        | .free => (s.frameStartFree, Response.plain .done)
      | .none => (s, Response.plain .wrongState)
    | .waitFrame => (s, Response.plain .wrongState)
    | .off => (s, Response.plain .wrongState)

/-- The meaning of RESUME_OUTPUT. -/
def execResumeOutput (s : State) : Host.Outcome State Fault Refusal :=
  .next (take (· == 0x33) false resumeOutputBody s)

end Sys2Proof.Machine
end

