-- ==== Sys2Proof/Machine/OverlayWrites.lean ====
section
/-! DEFINITION. WRITE_GLYPH and WRITE_PALETTE (R119, R122). -/

namespace Sys2Proof.Machine

/-- WRITE_GLYPH writes its data bytes to consecutive addresses at once, or refuses a range past the end (R119). -/
def writeGlyphBody : CommandBody := fun c s =>
  let address := natAt2 c.args 0
  let data := c.args.drop 2
  if 3 ≤ c.args.length ∧ address ≤ 16383 ∧ address + data.length ≤ Config.glyphBytes then
    ({ s with ovc.glyphs := Cells.writeFrom s.ovc.glyphs address data }, Response.plain .done)
  else (s, Response.plain .badArgument)

/-- The meaning of WRITE_GLYPH. -/
def execWriteGlyph (s : State) : Host.Outcome State Fault Refusal := .next (take (· == 0x20) false writeGlyphBody s)

/-- The item a WRITE_PALETTE carries: 1..16 colours that end at or below entry 255 (R122). -/
def decodePaletteArgs (args : List Byte) : Option PaletteItem :=
  let first := (byteAt args 0).toNat
  let n := (args.length - 1) / 3
  if 1 ≤ n ∧ n ≤ 16 ∧ args.length = 1 + 3 * n ∧ first + n ≤ Config.paletteEntries then
    some { first := first, colours := pixelsOf (args.drop 1) }
  else none

/-- WRITE_PALETTE by output state (Table 7-4): in ACTIVE the item joins the pending list or is refused with FULL; in other
states it is applied at once. -/
def writePaletteBody : CommandBody := fun c s =>
  match decodePaletteArgs c.args with
  | none => (s, Response.plain .badArgument)
  | some item =>
    if s.otg.output = .active then
      if s.ovc.palettePending.length < Config.palettePendingSize then
        ({ s with ovc.palettePending := s.ovc.palettePending ++ [item] }, Response.plain .accepted)
      else (s, Response.plain .full)
    else ({ s with ovc.palette := applyItem s.ovc.palette item }, Response.plain .done)

/-- The meaning of WRITE_PALETTE. -/
def execWritePalette (s : State) : Host.Outcome State Fault Refusal :=
  .next (take (· == 0x21) false writePaletteBody s)

end Sys2Proof.Machine
end

