-- ==== Sys2Proof/Machine/Panel.lean ====
section
/-! DEFINITION. What the panel pins carry: the Panel Clock Shaper (chapter 6), the pulses and data-valid (R85 to R88),
and the composition of a pixel (chapter 7). The pins are functions of the state, the pixel time and its half. -/

namespace Sys2Proof.Machine

/-! ### The panel clock -/

/-- The two halves of a pixel time (section 6.2). -/
inductive Half where
  | first
  | second
  deriving DecidableEq, Repr

/-- The level a pattern bit gives: LEVEL holds it (R103), GATE gives a pulse high in the first half (R104). -/
def PatternKind.bitLevel (k : PatternKind) (b : Bool) (h : Half) : Bool :=
  match k with
  | .level => b
  | .gate => b && h == .first

/-- PCLK at pixel time `p` under a regime: the bit at position p mod L (R102), inverted when the run says (R105). -/
def ClockRegime.levelAt (c : ClockRegime) (p : Nat) (h : Half) : Bool :=
  match c with
  | .pattern kind bits invert => (kind.bitLevel (bits.getD (p % bits.length) false) h) ^^ invert
  | .level high => high

/-! ### Pulses and data-valid -/

/-- The level of a pin that is asserted or not under a polarity (R85, R86). -/
def Polarity.level (p : Polarity) (asserted : Bool) : Bool :=
  match p with
  | .activeHigh => asserted
  | .activeLow => !asserted

/-- LP at pixel time `p` of a line (R85). -/
def Line.linePulse (l : Line) (p : Nat) : Bool :=
  l.pulsePolarity.level (decide (l.pulseStart ≤ p) && decide (p < l.pulseStart + l.pulseWidth))

/-- DV at pixel time `p` of a line: the active pixels of an active line (R87). -/
def Line.dataValid (l : Line) (p : Nat) : Bool :=
  match l.kind with
  | .active _ => decide (l.hStart ≤ p) && decide (p < l.hStart + l.width)
  | .wait => false
  | .blank => false

/-- Whether FP is asserted on a line of an ACTIVE frame (R86). -/
def Raster.framePulseOn (r : Raster) (line : Nat) : Bool :=
  decide (r.framePulseStart ≤ line) && decide (line < r.framePulseStart + r.framePulseWidth)

/-! ### Composition of a pixel (R113 to R116) -/

/-- The base pixel: padded with background on the right, cut at W (R113). -/
def Picture.basePixel (pic : Picture) (x : Nat) : Pixel :=
  match pic.base with
  | .line pixels => pixels.getD x pic.background
  | .background => pic.background

/-- The glyph index of a candidate at column `c` (R115). -/
def Candidate.glyphIndex (k : Candidate) (c : Nat) : Nat :=
  let d := k.window.depth
  (byteAt k.row (c * d / 8)).toNat / 2 ^ (8 - d - c * d % 8) % 2 ^ d

/-- One channel of a blend (R116). -/
def blendByte (weight : Nat) (colour beneath : Byte) : Byte :=
  byteOf ((weight * colour.toNat + (8 - weight) * beneath.toNat + 4) / 8)

/-- A blend, each channel on its own (R116). -/
def blend (weight : Nat) (colour beneath : Pixel) : Pixel :=
  pixelOf (blendByte weight (red colour) (red beneath)) (blendByte weight (green colour) (green beneath))
    (blendByte weight (blue colour) (blue beneath))

/-- Whether a candidate's columns cover active pixel `x` (R114). -/
def Candidate.covers (k : Candidate) (x : Nat) : Bool :=
  decide (k.window.x ≤ x) && decide (x < k.window.x + k.window.width)

/-- Lay one candidate over the value beneath at active pixel `x`, with the palette as it stands (R114, R116). -/
def Candidate.over (s : State) (x : Nat) (k : Candidate) (beneath : Pixel) : Pixel :=
  if !k.covers x then beneath
  else
    let index := k.glyphIndex (x - k.window.x)
    if k.window.key = some index then beneath
    else blend k.window.weight (s.paletteColour (k.window.paletteBase + index)) beneath

/-- The composited pixel `x`: candidates from the last in the list to the first (R114). -/
def Picture.pixel (s : State) (pic : Picture) (x : Nat) : Pixel :=
  pic.candidates.foldr (fun k beneath => k.over s x beneath) (pic.basePixel x)

/-! ### The pins (Table 5-3) -/

/-- The levels of the panel pins. -/
structure Pins where
  /-- PD[23:0]. -/
  pd : Pixel
  /-- PCLK. -/
  pclk : Bool
  /-- LP. -/
  lp : Bool
  /-- FP. -/
  fp : Bool
  /-- DV. -/
  dv : Bool
  deriving DecidableEq, Repr

/-- Every pin low: RESET_N low, and OFF with an empty active bank (R88). -/
def Pins.low : Pins := { pd := 0, pclk := false, lp := false, fp := false, dv := false }

/-- The idle levels of OFF and HELD, from the active bank as it stands (R85, R86, R88, R107). -/
def Cfs.idlePins (c : Cfs) : Pins :=
  match c.active with
  | none => Pins.low
  | some b => { pd := 0, pclk := b.raster.clockIdle, lp := b.raster.linePolarity.level false,
                fp := b.raster.framePolarity.level false, dv := false }

/-- PD at pixel time `p` of a line: the composited pixel while DV is high, else 000000h (R87). -/
def Line.pixelData (s : State) (l : Line) (p : Nat) : Pixel :=
  match l.kind with
  | .active pic => if l.dataValid p then pic.pixel s (p - l.hStart) else 0
  | .wait => 0
  | .blank => 0

/-- The pins at pixel time `p` of the line in progress, in half `h`; where no line is in progress, the idle levels
(Table 5-3; log entry 12). -/
def State.pins (s : State) (p : Nat) (h : Half) : Pins :=
  if s.resetHeld then Pins.low
  else match s.otg.phase with
    | .inLine l => { pd := l.pixelData s p, pclk := l.clock.levelAt p h, lp := l.linePulse p,
                     fp := l.framePulse, dv := l.dataValid p }
    | .idle => s.cfs.idlePins
    | .lineStartDue => s.cfs.idlePins
    | .frameEndDue => s.cfs.idlePins

/-- What the part drives on the return lane in the present byte time; idle symbols while held in reset (R164). -/
def State.laneSymbol (s : State) : LaneSymbol := if s.resetHeld then .idle else s.rlt.lane.symbol

end Sys2Proof.Machine
end

