-- ==== Sys2Proof/Machine/Sequencer.lean ====
section
/-! DEFINITION. The Line Sequencer: the walk of the line program, obtaining and dropping source numbers, substitution,
the thinning cadence (chapters 3 and 4). -/

namespace Sys2Proof.Machine

/-! ### Runs (R40) -/

/-- The run of active line `a` and the run position, walking the entries in force. -/
def findRun : List Entry → Nat → Option (Entry × Nat)
  | [], _ => none
  | e :: rest, a => if a < e.runLength then some (e, a) else findRun rest (a - e.runLength)

/-- The pattern index a run selects at a run position (R53). -/
def Entry.patternAt (e : Entry) (position : Nat) : Nat :=
  if position % 2 = 0 then e.patternA else e.patternB.getD e.patternA

/-! ### Obtaining a source number (R65 to R68) -/

/-- Remove the oldest line record of a tag; the record's line count stored falls by 1 (R31). -/
def State.consume (s : State) (t : Byte) : State :=
  { s with
    store := s.store.eraseP (·.tag == t)
    frames := updateFrame t (fun r => { r with stored := r.stored - 1 }) s.frames }

/-- Discard records of tag `t` numbered below `e` as stale, counting each (R66). `fuel` bounds the repeated look; the
number of records in the store suffices. -/
def State.discardStale (t : Byte) (e : Nat) : Nat → State → State
  | 0, s => s
  | fuel + 1, s =>
    match s.store.find? (·.tag == t) with
    | none => s
    | some l => if l.number < e then State.discardStale t e fuel ((s.consume t).count .staleLine) else s

/-- Look for source number e among the bound frame's lines and take it when it is there (R65); `none` when the number
is not in the store or no frame is bound. -/
def State.fetchNumber (s : State) : State × Option LineRecord :=
  match s.lsq.bound with
  | none => (s, none)
  | some t =>
    let s1 := State.discardStale t s.lsq.expected s.store.length s
    match s1.store.find? (·.tag == t) with
    | none => (s1, none)
    | some l => if l.number = s.lsq.expected then (s1.consume t, some l) else (s1, none)

/-- The base a REPEAT line or a REPEAT_LAST substitute has: the last-shown line, or background (R47, R70). -/
def State.lastShownBase (s : State) : Base :=
  match s.lsq.lastShown with
  | some pixels => .line pixels
  | none => .background

/-- The substitute the missing-line policy chooses (R70). -/
def State.substitute (s : State) (r : Raster) : Base :=
  match r.missingPolicy with
  | .repeatLast => s.lastShownBase
  | .fill => .background

/-- A number is missing on a SHOW or SHOW_THIN line (R68): MISSING_LINE is counted, and the first of the frame raises
UNDERRUN with the number. -/
def State.noteMissing (s : State) : State :=
  let s1 := s.count .missingLine
  let s2 := if s.lsq.underrunNoticed then s1 else s1.raise .underrun (BitVec.ofNat 16 s.lsq.expected)
  { s2 with lsq.underrunNoticed := true }

/-- Obtain number e for a line to be shown (R42, R65, R67, R71): the base of the line and the state, e not yet raised. -/
def State.obtain (s : State) (r : Raster) : State × Base :=
  let f := s.fetchNumber
  match f.2 with
  | none => (f.1.noteMissing, f.1.substitute r)
  | some l =>
    if l.damaged ∧ r.damagedPolicy = .asMissing then (f.1.noteMissing, f.1.substitute r)
    else ({ f.1 with lsq.lastShown := some l.pixels }, .line l.pixels)

/-- Add 1 to e (R49). -/
def State.advanceExpected (s : State) : State := { s with lsq.expected := s.lsq.expected + 1 }

/-- A SHOW line (R42). -/
def State.showNumber (s : State) (r : Raster) : State × Base := ((s.obtain r).1.advanceExpected, (s.obtain r).2)

/-- A drop of number e (R44): the result is discarded and nothing is counted but stale records; then e rises and the
cadence counter becomes 0 (R43). -/
def State.dropNumber (s : State) : State :=
  { s.fetchNumber.1.advanceExpected with lsq.cadence := 0 }

/-- The cadence counter at run position 0 of a SHOW_THIN run (R45). -/
def State.setCadence (s : State) (e : Entry) : State :=
  { s with lsq.cadence := match e.phaseMode with
      | .zero => 0
      | .seeded => s.lsq.lfsr.toNat % e.thinDivisor }

/-- A SHOW_THIN line (R43, R45). -/
def State.showThin (s : State) (r : Raster) (e : Entry) (position : Nat) : State × Base :=
  let s1 := if position = 0 then s.setCadence e else s
  let s2 := if s1.lsq.cadence = e.thinDivisor - 1 then s1.dropNumber else s1
  let shown := s2.showNumber r
  ({ shown.1 with lsq.cadence := shown.1.lsq.cadence + 1 }, shown.2)

/-- Carry out a run's action on a line (R41): the base of the line. -/
def State.walkLine (s : State) (r : Raster) (e : Entry) (position : Nat) : State × Base :=
  match e.action with
  | .showLine => s.showNumber r
  | .showThin => s.showThin r e position
  | .repeatLine => (s, s.lastShownBase)
  | .fill => (s, .background)

end Sys2Proof.Machine
end

