-- ==== Sys2Proof/Machine/Raster.lean ====
section
/-! DEFINITION. The timing events of the Output Timing Generator: LINE_START, ACTIVE_DATA_END, LINE_END, WAIT_LINE_END,
FRAME_END (chapter 5, with the reads of chapters 6 and 7 at a line start). -/

namespace Sys2Proof.Machine

/-! ### What a line start gathers -/

/-- The clock regime of a pattern slot read at the line start (R102); a slot that is not defined leaves the idle level
(it cannot be named by a configuration that passed R101; log entry 18). -/
def Bank.patternRegime (b : Bank) (slot : Nat) (invert : Bool) : ClockRegime :=
  match b.pattern? slot with
  | some p => .pattern p.kind p.bits invert
  | none => .level b.raster.clockIdle

/-- The blank-line clock: the named pattern, not inverted, or QUIET at the clock idle level (R106). -/
def Bank.blankRegime (b : Bank) : ClockRegime :=
  match b.raster.blankClock with
  | some slot => b.patternRegime slot false
  | none => .level b.raster.clockIdle

/-- Whether a window is a candidate for active line `a` under a run's mask (R55, R112). -/
def Window.candidateFor (w : Window) (mask : Byte) (a : Nat) : Bool :=
  mask.getLsbD w.id && decide (w.y ≤ a) && decide (a < w.y + w.height)

/-- The bytes of a window's row on active line `a`, copied out of the glyph store (R112). -/
def State.gatherRow (s : State) (w : Window) (a : Nat) : List Byte :=
  (List.range (bytesForBits (w.width * w.depth))).map fun i =>
    s.glyphByte (w.glyphBase + (a - w.y) * w.stride + i)

/-- The candidate list of active line `a` with its row buffers (R112). -/
def State.gather (s : State) (windows : List Window) (mask : Byte) (a : Nat) : List Candidate :=
  (windows.filter (·.candidateFor mask a)).map fun w => { window := w, row := s.gatherRow w a }

/-- A line of a kind, with the raster read at its line start (R82, R85, R86, R89). -/
def Bank.lineOf (b : Bank) (kind : LineKind) (framePulse : Bool) (clock : ClockRegime) : Line where
  kind := kind
  lineTotal := b.raster.lineTotal
  hStart := b.raster.hStart
  width := b.raster.width
  pulseStart := b.raster.linePulseStart
  pulseWidth := b.raster.linePulseWidth
  pulsePolarity := b.raster.linePolarity
  framePulse := b.raster.framePolarity.level framePulse
  clock := clock
  dataEnded := false

/-- A line begins. -/
def State.startLine (s : State) (l : Line) : State := { s with otg.phase := .inLine l }

/-- The line start of active line `a` (R41, R106, R112): the walk, the clock regime of the run and the gathering. -/
def State.startActiveLine (s : State) (b : Bank) (a : Nat) (e : Entry) (position : Nat) : State :=
  let walked := s.walkLine b.raster e position
  walked.1.startLine (b.lineOf
    (.active { base := walked.2, background := b.raster.background,
               candidates := s.gather b.windows e.windowMask a })
    (b.raster.framePulseOn s.otg.linePosition)
    (b.patternRegime (e.patternAt position) e.invert))

/-- The line start of a line of an ACTIVE frame outside the active area (R56, R106). -/
def State.startBlankLine (s : State) (b : Bank) : State :=
  s.startLine (b.lineOf .blank (b.raster.framePulseOn s.otg.linePosition) b.blankRegime)

/-- The line start of a wait line (R56, R86, R106). -/
def State.startWaitLine (s : State) (b : Bank) : State := s.startLine (b.lineOf .wait false b.blankRegime)

/-- Whether line `n` of a frame lies in the active area: lines VS to VS+H-1 (R83). -/
def Raster.inActiveArea (r : Raster) (n : Nat) : Bool := decide (r.vStart ≤ n) && decide (n < r.vStart + r.height)

/-- The line start of a line of an ACTIVE frame. An active line belongs to one run of the program (R40); were there none,
which no configuration that passed R39 allows, the line would start as a blank one (log entry 18). -/
def State.startFrameLine (s : State) (b : Bank) : State :=
  let n := s.otg.linePosition
  if b.raster.inActiveArea n then
    match findRun b.entriesInForce (n - b.raster.vStart) with
    | some (e, position) => s.startActiveLine b (n - b.raster.vStart) e position
    | none => s.startBlankLine b
  else s.startBlankLine b

/-- A line start in the present output state. -/
def State.lineStart (s : State) : State :=
  match s.cfs.active, s.otg.output with
  | some b, .waitFrame => s.startWaitLine b
  | some b, .active => s.startFrameLine b
  | _, _ => s

/-- Whether a line start comes next: the generator produces lines in ACTIVE and WAIT_FRAME (R82). -/
def State.lineStartDue (s : State) : Bool :=
  s.otg.phase == .lineStartDue && (s.otg.output == .active || s.otg.output == .waitFrame)

/-- The meaning of LINE_START (R82). -/
def execLineStart (s : State) : Host.Outcome State Fault Refusal := .next (event State.lineStartDue State.lineStart s)

/-! ### Active data end (R82, R123) -/

/-- Whether the active data end of the line in progress comes next; a wait line has none (R82). -/
def State.dataEndDue (s : State) : Bool :=
  s.otg.output == .active && match s.otg.phase with
    | .inLine l => !l.dataEnded
    | .idle => false
    | .lineStartDue => false
    | .frameEndDue => false

/-- The active data end: the pending palette list is applied and emptied (R123). -/
def State.activeDataEnd (s : State) : State :=
  match s.otg.phase with
  | .inLine l => { s with ovc := s.ovc.applyPalette, otg.phase := .inLine { l with dataEnded := true } }
  | _ => s

/-- The meaning of ACTIVE_DATA_END (R123). -/
def execActiveDataEnd (s : State) : Host.Outcome State Fault Refusal :=
  .next (event State.dataEndDue State.activeDataEnd s)

/-! ### Line end (R94) -/

/-- Whether the line end of a line of an ACTIVE frame comes next: its active data end has passed (R82). -/
def State.lineEndDue (s : State) : Bool :=
  s.otg.output == .active && match s.otg.phase with
    | .inLine l => l.dataEnded
    | .idle => false
    | .lineStartDue => false
    | .frameEndDue => false

/-- FT of the active bank (R89). -/
def State.frameTotal (s : State) : Nat :=
  match s.cfs.active with
  | some b => b.raster.frameTotal
  | none => 0

/-- The line end of a line of an ACTIVE frame: after line FT-1 the frame end follows; before it, a pending LINE hold is
reached, or the next line follows (R83, R94). -/
def State.lineEnd (s : State) : State :=
  if s.frameTotal ≤ s.otg.linePosition + 1 then { s with otg.phase := .frameEndDue }
  else if s.otg.holdPending = some .line then s.enterHeld .line (.midFrame (s.otg.linePosition + 1))
  else { s with otg := { s.otg with linePosition := s.otg.linePosition + 1, phase := .lineStartDue } }

/-- The meaning of LINE_END (R94). -/
def execLineEnd (s : State) : Host.Outcome State Fault Refusal := .next (event State.lineEndDue State.lineEnd s)

/-! ### Wait line end (R84) -/

/-- Whether the end of a wait line comes next. -/
def State.waitLineEndDue (s : State) : Bool :=
  s.otg.output == .waitFrame && match s.otg.phase with
    | .inLine _ => true
    | .idle => false
    | .lineStartDue => false
    | .frameEndDue => false

/-- The wait count rises by 1, holding at 4095 (R84). -/
def State.countWaitLine (s : State) : State := { s with otg.waitCount := min (s.otg.waitCount + 1) 4095 }

/-- The decision at a wait line end, by the active bank as it stands (R84, R62). -/
def State.waitLineEnd (s : State) : State :=
  let s1 := s.countWaitLine
  match s.cfs.active with
  | none => s1
  | some b =>
    match b.raster.syncMode with
    | .free => s1.frameStartFree
    | .locked =>
      match s.frames.find? (·.ready b.raster.prime) with
      | some r => s1.frameStartReady b.raster.prime r.tag
      | none =>
        if b.raster.coastLimit ≤ s1.otg.waitCount then s1.frameStartCoast
        else { s1 with otg.phase := .lineStartDue }

/-- The meaning of WAIT_LINE_END (R84). -/
def execWaitLineEnd (s : State) : Host.Outcome State Fault Refusal :=
  .next (event State.waitLineEndDue State.waitLineEnd s)

/-! ### Frame end (R96) -/

/-- Whether the frame end comes next. -/
def State.frameEndDue (s : State) : Bool := s.otg.output == .active && s.otg.phase == .frameEndDue

/-- The five steps of R96: release, pending commit, pending stop, pending hold, and what the sync mode of the active bank
as step 2 left it requires. -/
def State.frameEnd (s : State) : State :=
  let s1 := s.release.applyPendingCommit
  if s.otg.stopPending then s1.enterOff.raise .outputStopped 0
  else match s.otg.holdPending with
    | some kind => s1.enterHeld kind .boundary
    | none =>
      match s1.syncMode with
      | .locked => s1.enterWaitFrame
      | .free => s1.frameStartFree

/-- The meaning of FRAME_END (R96). -/
def execFrameEnd (s : State) : Host.Outcome State Fault Refusal := .next (event State.frameEndDue State.frameEnd s)

end Sys2Proof.Machine
end

