-- ==== Sys2Proof/Machine/Staging.lean ====
section
/-! DEFINITION. Staging and commit (chapter 8): the seven staging writes, validation, COMMIT, DISCARD, READ_CONFIG. -/

namespace Sys2Proof.Machine

/-! ### Staging writes (R127) -/

/-- A staging write: the arguments are decoded first (`none` gives BAD_ARGUMENT); then a pending commit refuses it with
STAGE_LOCKED; then `write` checks against the list as it stands and answers the new staging bank or a refusal (R127). -/
def stagingWrite {α : Type} (decode : List Byte → Option α) (write : α → Bank → Bank ⊕ Status) : CommandBody :=
  fun c s =>
    match decode c.args with
    | none => (s, Response.plain .badArgument)
    | some x =>
      if s.cfs.commitPending.isSome then (s, Response.plain .stageLocked)
      else match write x s.cfs.staging with
        | .inl bank => ({ s with cfs.staging := bank }, Response.plain .done)
        | .inr status => (s, Response.plain status)

/-- STAGE_RASTER replaces every raster parameter (R128). -/
def stageRasterBody : CommandBody := stagingWrite decodeRaster fun r b => .inl { b with raster := r }

/-- The meaning of STAGE_RASTER. -/
def execStageRaster (s : State) : Host.Outcome State Fault Refusal := .next (take (· == 0x10) false stageRasterBody s)

/-- The arguments of STAGE_PROGRAM: a first index 0..63 and 1..8 entries that fit below 64 (R129). -/
def decodeProgramArgs (args : List Byte) : Option (Nat × List Entry) :=
  let first := (byteAt args 0).toNat
  let m := (args.length - 1) / 9
  if 1 ≤ m ∧ m ≤ 8 ∧ args.length = 1 + 9 * m ∧ first ≤ 63 ∧ first + m ≤ 64 then
    (decodeEntries m (args.drop 1)).map fun es => (first, es)
  else none

/-- Replace consecutive entries from an index upward (R129). -/
def setEntries (program : Vector Entry 64) : Nat → List Entry → Vector Entry 64
  | _, [] => program
  | i, e :: rest => setEntries (program.setIfInBounds i e) (i + 1) rest

/-- STAGE_PROGRAM replaces 1 to 8 consecutive entries; n is not changed (R129). -/
def stageProgramBody : CommandBody :=
  stagingWrite decodeProgramArgs fun x b => .inl { b with program := setEntries b.program x.1 x.2 }

/-- The meaning of STAGE_PROGRAM. -/
def execStageProgram (s : State) : Host.Outcome State Fault Refusal :=
  .next (take (· == 0x11) false stageProgramBody s)

/-- The argument of STAGE_PROGRAM_LENGTH: one byte, 1..64 (R130). -/
def decodeLengthArgs (args : List Byte) : Option Nat :=
  let n := (byteAt args 0).toNat
  if args.length = 1 ∧ 1 ≤ n ∧ n ≤ 64 then some n else none

/-- STAGE_PROGRAM_LENGTH sets n (R130). -/
def stageProgramLengthBody : CommandBody := stagingWrite decodeLengthArgs fun n b => .inl { b with programLength := n }

/-- The meaning of STAGE_PROGRAM_LENGTH. -/
def execStageProgramLength (s : State) : Host.Outcome State Fault Refusal :=
  .next (take (· == 0x12) false stageProgramLengthBody s)

/-- STAGE_PATTERN defines, redefines or undefines one slot (R131). -/
def stagePatternBody : CommandBody :=
  stagingWrite decodePattern fun x b => .inl { b with patterns := b.patterns.setIfInBounds x.1 x.2 }

/-- The meaning of STAGE_PATTERN. -/
def execStagePattern (s : State) : Host.Outcome State Fault Refusal :=
  .next (take (· == 0x13) false stagePatternBody s)

/-! ### Window list operations (R132, R133) -/

/-- The arguments of INSERT_WINDOW: a position byte and a window record (R132). -/
def decodeInsertArgs (args : List Byte) : Option (Nat × Window) :=
  if args.length = 19 then (decodeWindow (args.drop 1)).map fun w => ((byteAt args 0).toNat, w) else none

/-- Put a record at a position of the list, the records there and below moving down by one (R132). -/
def insertAt (position : Nat) (w : Window) (windows : List Window) : List Window :=
  windows.take position ++ w :: windows.drop position

/-- INSERT_WINDOW: a list of 8 refuses with FULL, a present id or a position beyond the list with BAD_ARGUMENT, in that
order; otherwise the record is placed (R132). -/
def insertWindowBody : CommandBody :=
  stagingWrite decodeInsertArgs fun x b =>
    if Config.windowListSize ≤ b.windows.length then .inr .full
    else if b.windows.any (·.id == x.2.id) then .inr .badArgument
    else if b.windows.length < x.1 then .inr .badArgument
    else .inl { b with windows := insertAt x.1 x.2 b.windows }

/-- The meaning of INSERT_WINDOW. -/
def execInsertWindow (s : State) : Host.Outcome State Fault Refusal :=
  .next (take (· == 0x14) false insertWindowBody s)

/-- The argument of REMOVE_WINDOW: one byte, an id 0..7 (R133). -/
def decodeRemoveArgs (args : List Byte) : Option Nat :=
  if args.length = 1 ∧ (byteAt args 0).toNat ≤ 7 then some (byteAt args 0).toNat else none

/-- The list without the record of an id, the others in their order. -/
def withoutWindow (id : Nat) (windows : List Window) : List Window := windows.filter (fun w => !(w.id == id))

/-- REMOVE_WINDOW removes the record of an id (R133). -/
def removeWindowBody : CommandBody :=
  stagingWrite decodeRemoveArgs fun id b =>
    if b.windows.any (·.id == id) then .inl { b with windows := withoutWindow id b.windows } else .inr .badArgument

/-- The meaning of REMOVE_WINDOW. -/
def execRemoveWindow (s : State) : Host.Outcome State Fault Refusal :=
  .next (take (· == 0x15) false removeWindowBody s)

/-- The arguments of MOVE_WINDOW: an id 0..7 and a new position (R133). -/
def decodeMoveArgs (args : List Byte) : Option (Nat × Nat) :=
  if args.length = 2 ∧ (byteAt args 0).toNat ≤ 7 then some ((byteAt args 0).toNat, (byteAt args 1).toNat) else none

/-- MOVE_WINDOW takes the record of an id out of the list and puts it back at the new position (R133). -/
def moveWindowBody : CommandBody :=
  stagingWrite decodeMoveArgs fun x b =>
    match b.windows.find? (·.id == x.1) with
    | none => .inr .badArgument
    | some w =>
      if b.windows.length ≤ x.2 then .inr .badArgument
      else .inl { b with windows := insertAt x.2 w (withoutWindow x.1 b.windows) }

/-- The meaning of MOVE_WINDOW. -/
def execMoveWindow (s : State) : Host.Outcome State Fault Refusal :=
  .next (take (· == 0x16) false moveWindowBody s)

/-! ### Validation (Table 8-5, R135, R136) -/

/-- A failed check: its reason code and, for codes 7 to 13, the index reported. -/
structure Failure where
  /-- The reason code, 1..14. -/
  code : Nat
  /-- The reported index. -/
  index : Option Nat
  deriving DecidableEq, Repr

/-- A check without an index: its failure when the condition does not hold. -/
def checkThat (code : Nat) (holds : Bool) : Option Failure :=
  if holds then none else some { code := code, index := none }

/-- Codes 1 to 4, the geometry of R80. -/
def Raster.lineGeometry (r : Raster) : Bool :=
  decide (1 ≤ r.width) && decide (r.width ≤ 2048) && decide (r.hStart + r.width ≤ r.lineTotal)
/-- Code 2. -/
def Raster.frameGeometry (r : Raster) : Bool :=
  decide (1 ≤ r.height) && decide (r.height ≤ 2048) && decide (r.vStart + r.height ≤ r.frameTotal)
/-- Code 3. -/
def Raster.linePulseFits (r : Raster) : Bool :=
  decide (1 ≤ r.linePulseWidth) && decide (r.linePulseWidth ≤ 255)
    && decide (r.linePulseStart + r.linePulseWidth ≤ r.lineTotal)
/-- Code 4. -/
def Raster.framePulseFits (r : Raster) : Bool :=
  decide (1 ≤ r.framePulseWidth) && decide (r.framePulseWidth ≤ 15)
    && decide (r.framePulseStart + r.framePulseWidth ≤ r.frameTotal)
/-- Code 14. -/
def Raster.startLimits (r : Raster) : Bool :=
  decide (1 ≤ r.prime) && decide (r.prime ≤ 8) && decide (1 ≤ r.coastLimit) && decide (r.coastLimit ≤ 4095)

/-- The sum of the run lengths of the entries in force (R39). -/
def Bank.runSum (b : Bank) : Nat := (b.entriesInForce.map (·.runLength)).sum

/-- Code 7: the divisor of a SHOW_THIN entry is 2..16. -/
def Entry.divisorOk (e : Entry) : Bool :=
  !(e.action == .showThin) || (decide (2 ≤ e.thinDivisor) && decide (e.thinDivisor ≤ 16))

/-- Whether a slot of the bank is defined. -/
def Bank.defines (b : Bank) (slot : Nat) : Bool := (b.pattern? slot).isSome

/-- Code 8: pattern A, and a present pattern B, name defined slots. -/
def Bank.entryPatternsOk (b : Bank) (e : Entry) : Bool := b.defines e.patternA && e.patternB.all b.defines

/-- The lowest index among the entries in force that fail a check (R136). -/
def Bank.checkEntries (b : Bank) (code : Nat) (ok : Entry → Bool) : Option Failure :=
  (b.entriesInForce.findIdx? (fun e => !ok e)).map fun i => { code := code, index := some i }

/-- Code 9: a blank-line clock that is a pattern index names a defined slot; the slot is reported. -/
def Bank.checkBlankClock (b : Bank) : Option Failure :=
  match b.raster.blankClock with
  | none => none
  | some slot => if b.defines slot then none else some { code := 9, index := some slot }

/-- The lowest window id among the windows that fail a check (R136). -/
def Bank.checkWindows (b : Bank) (code : Nat) (ok : Window → Bool) : Option Failure :=
  ((b.windows.filter (fun w => !ok w)).map (·.id)).min?.map fun i => { code := code, index := some i }

/-- Code 10: the window lies within the active area. -/
def Window.insideActive (w : Window) (r : Raster) : Bool :=
  decide (w.x + w.width ≤ r.width) && decide (w.y + w.height ≤ r.height)
/-- Code 11: the glyph range lies within the store. -/
def Window.glyphsInside (w : Window) : Bool :=
  decide (w.glyphBase + w.stride * (w.height - 1) + bytesForBits (w.width * w.depth) ≤ 16384)
/-- Code 12: the palette range lies within the palette. -/
def Window.paletteInside (w : Window) : Bool := decide (w.paletteBase + 2 ^ w.depth - 1 ≤ 255)
/-- Code 13: a present key is less than 2^depth. -/
def Window.keyInside (w : Window) : Bool := w.key.all (fun k => decide (k < 2 ^ w.depth))

/-- The checks in the order of their codes (R136). -/
def Bank.checks (b : Bank) : List (Option Failure) :=
  [ checkThat 1 b.raster.lineGeometry,
    checkThat 2 b.raster.frameGeometry,
    checkThat 3 b.raster.linePulseFits,
    checkThat 4 b.raster.framePulseFits,
    checkThat 5 (decide (1 ≤ b.programLength)),
    checkThat 6 (b.runSum == b.raster.height),
    b.checkEntries 7 Entry.divisorOk,
    b.checkEntries 8 b.entryPatternsOk,
    b.checkBlankClock,
    b.checkWindows 10 (·.insideActive b.raster),
    b.checkWindows 11 Window.glyphsInside,
    b.checkWindows 12 Window.paletteInside,
    b.checkWindows 13 Window.keyInside,
    checkThat 14 b.raster.startLimits ]

/-- Validation of a bank: the first check that fails, or none (R136). -/
def Bank.validate (b : Bank) : Option Failure := b.checks.findSome? id

/-! ### COMMIT (R137) -/

/-- Whether an output frame is in progress (R137, steps 3 and 4): ACTIVE, or HELD at MID_FRAME. -/
def Otg.frameInProgress (o : Otg) : Bool :=
  match o.output, o.holdPosition with
  | .active, _ => true
  | .held, .midFrame _ => true
  | .held, .none => false
  | .held, .boundary => false
  | .off, _ => false
  | .waitFrame, _ => false

/-- COMMIT (R137): a pending commit refuses it with STAGE_LOCKED; a failed validation with INVALID_STAGE, its reason code
as detail and its index as data; otherwise it is applied at once or made pending. -/
def commitBody : CommandBody := fun c s =>
  if c.args ≠ [] then (s, Response.plain .badArgument)
  else if s.cfs.commitPending.isSome then (s, Response.plain .stageLocked)
  else match s.cfs.staging.validate with
    | some f => (s, { status := .invalidStage, detail := byteOf f.code, data := f.index.toList.map byteOf })
    | none =>
      if s.otg.frameInProgress then ({ s with cfs.commitPending := some c.tag }, Response.plain .accepted)
      else ({ s with cfs := s.cfs.applyCommit }, Response.plain .done)

/-- The meaning of COMMIT. -/
def execCommit (s : State) : Host.Outcome State Fault Refusal := .next (take (· == 0x17) false commitBody s)

/-! ### DISCARD (R140) -/

/-- DISCARD cancels a pending commit, with detail 1, and sets the staging bank equal to the active bank (R140). -/
def discardBody : CommandBody := fun c s =>
  if c.args ≠ [] then (s, Response.plain .badArgument)
  else
    ({ s with cfs := { s.cfs with commitPending := none }.restage },
     { status := .done, detail := byteOf (bit s.cfs.commitPending.isSome), data := [] })

/-- The meaning of DISCARD. -/
def execDiscard (s : State) : Host.Outcome State Fault Refusal := .next (take (· == 0x18) false discardBody s)

/-! ### READ_CONFIG (R134) -/

/-- The arguments of READ_CONFIG: a bank byte 0..1 (`true` for STAGING), an item and its selection (Table 8-4). -/
def decodeReadArgs (args : List Byte) : Option (Bool × (Bank → List Byte)) :=
  match args with
  | bank :: item :: sel => if bank.toNat ≤ 1 then (readItem item sel).map fun f => (decide (bank = 1), f) else none
  | _ => none

/-- READ_CONFIG returns one item of one bank as it stands; the ACTIVE bank while empty is refused with WRONG_STATE
(R134). -/
def readConfigBody : CommandBody := fun c s =>
  match decodeReadArgs c.args with
  | none => (s, Response.plain .badArgument)
  | some (staging, f) =>
    match (if staging then some s.cfs.staging else s.cfs.active) with
    | none => (s, Response.plain .wrongState)
    | some b => (s, { status := .done, detail := 0, data := f b })

/-- The meaning of READ_CONFIG. -/
def execReadConfig (s : State) : Host.Outcome State Fault Refusal := .next (take (· == 0x19) false readConfigBody s)

end Sys2Proof.Machine
end

