-- ==== Sys2Proof/Machine/Dispatch.lean ====
section
/-! DEFINITION. One arm for each command. -/

namespace Sys2Proof.Machine

/-- The effect of a command on everything but the queue of waiting commands. -/
def exec (i : Instr) (s : State) : Host.Outcome State Fault Refusal :=
  match i with
  | .powerOnReset => Sys2Proof.Machine.execPowerOnReset s
  | .pinReset => Sys2Proof.Machine.execPinReset s
  | .pinResetRelease => Sys2Proof.Machine.execPinResetRelease s
  | .deviceResetEvent => Sys2Proof.Machine.execDeviceResetEvent s
  | .startSymbol => Sys2Proof.Machine.execStartSymbol s
  | .packetReceptionEnd bytes => Sys2Proof.Machine.execPacketReceptionEnd bytes s
  | .silenceTimerExpiry => Sys2Proof.Machine.execSilenceTimerExpiry s
  | .idleTimerExpiry => Sys2Proof.Machine.execIdleTimerExpiry s
  | .laneFree => Sys2Proof.Machine.execLaneFree s
  | .lineStart => Sys2Proof.Machine.execLineStart s
  | .activeDataEnd => Sys2Proof.Machine.execActiveDataEnd s
  | .lineEnd => Sys2Proof.Machine.execLineEnd s
  | .waitLineEnd => Sys2Proof.Machine.execWaitLineEnd s
  | .frameEnd => Sys2Proof.Machine.execFrameEnd s
  | .ping => Sys2Proof.Machine.execPing s
  | .openSession => Sys2Proof.Machine.execOpenSession s
  | .closeSession => Sys2Proof.Machine.execCloseSession s
  | .readStatus => Sys2Proof.Machine.execReadStatus s
  | .setNotices => Sys2Proof.Machine.execSetNotices s
  | .deviceReset => Sys2Proof.Machine.execDeviceReset s
  | .stageRaster => Sys2Proof.Machine.execStageRaster s
  | .stageProgram => Sys2Proof.Machine.execStageProgram s
  | .stageProgramLength => Sys2Proof.Machine.execStageProgramLength s
  | .stagePattern => Sys2Proof.Machine.execStagePattern s
  | .insertWindow => Sys2Proof.Machine.execInsertWindow s
  | .removeWindow => Sys2Proof.Machine.execRemoveWindow s
  | .moveWindow => Sys2Proof.Machine.execMoveWindow s
  | .commit => Sys2Proof.Machine.execCommit s
  | .discard => Sys2Proof.Machine.execDiscard s
  | .readConfig => Sys2Proof.Machine.execReadConfig s
  | .writeGlyph => Sys2Proof.Machine.execWriteGlyph s
  | .writePalette => Sys2Proof.Machine.execWritePalette s
  | .startOutput => Sys2Proof.Machine.execStartOutput s
  | .stopOutput => Sys2Proof.Machine.execStopOutput s
  | .holdOutput => Sys2Proof.Machine.execHoldOutput s
  | .resumeOutput => Sys2Proof.Machine.execResumeOutput s
  | .readCounters => Sys2Proof.Machine.execReadCounters s
  | .unknownCommand => Sys2Proof.Machine.execUnknownCommand s

end Sys2Proof.Machine
end

