-- ==== Sys2Proof/Machine/Time.lean ====
section
/-! DEFINITION. The passing of one byte time of the return lane, 0.8 µs (R159): what happens at a step whose queue of
commands is empty (log entry 4). -/

namespace Sys2Proof.Machine

/-- The lane sends one byte; with the last, the lane-free event comes (R159, R163). -/
def tickLane (s : State) : State :=
  match s.rlt.lane with
  | .idle => s
  | .busy m sent => if sent + 1 < m.length then { s with rlt.lane := .busy m (sent + 1) } else laneFree s

/-- The silence timer advances; at 500 µs it expires (R9). -/
def tickSilence (s : State) : State :=
  match s.lrx.silence with
  | none => s
  | some t => if t + 1 < Config.silenceByteTimes then { s with lrx.silence := some (t + 1) } else silenceTimerExpiry s

/-- The idle timer of an open session advances when it runs; at the idle limit it expires (R152). -/
def tickIdle (s : State) : State :=
  match s.mge.session with
  | none => s
  | some x =>
    if x.idleLimit = 0 then s
    else if x.idleElapsed + 1 < Config.byteTimesPerMs * x.idleLimit.toNat then
      { s with mge.session := some { x with idleElapsed := x.idleElapsed + 1 } }
    else idleTimerExpiry s

/-- One byte time passes. The three may end together; the model takes the lane first, then the silence timer, then the
idle timer (log entry 4). In reset nothing runs (R158). -/
def tick (s : State) : State := if s.resetHeld then s else tickIdle (tickSilence (tickLane s))

end Sys2Proof.Machine
end

