-- ==== Sys2Proof/Safety.lean ====
section
/-! DEFINITION. What holds of the part in every run: the laws of the device and the limits the manual states, each as a
predicate on a state. Claims say that every step keeps them. -/

namespace Sys2Proof

open Sys2Proof.Machine

/-- The capacities that need no other law: line store, command queue, reply queue, notice queue, reply cache, pending
palette list, window lists (R30, R144, R160, R162, R148, R122, R110). -/
def Safe.Capacities (s : State) : Prop :=
  s.store.length ≤ 8 ∧ s.mge.commands.length ≤ 16 ∧ s.rlt.replies.length ≤ 16 ∧ s.rlt.notices.length ≤ 8
    ∧ s.mge.cache.length ≤ 4 ∧ s.ovc.palettePending.length ≤ 4 ∧ s.cfs.staging.windows.length ≤ 8
    ∧ ∀ b, s.cfs.active = some b → b.windows.length ≤ 8

/-- The glyph store and the palette are in canonical form, and every pending palette item ends within the palette
(R118, R121, R122). -/
def Safe.Memories (s : State) : Prop :=
  Memory.wf s.ovc.glyphs = true ∧ Cells.wf 256 s.ovc.palette = true
    ∧ ∀ item ∈ s.ovc.palettePending, item.first + item.colours.length ≤ 256

/-- Law of the device (R125): the active bank is empty or passed every commit check; and while a commit is pending, the
staging bank is one that passed (R137). -/
def Safe.Configuration (s : State) : Prop :=
  (∀ b, s.cfs.active = some b → b.validate = none)
    ∧ (s.cfs.commitPending.isSome = true → s.cfs.staging.validate = none)

/-- The output states (R81, R95, R96, R98, R124): out of OFF the active bank is not empty; hold pending and stop pending
are not both set, and neither outside ACTIVE; the hold position is none outside HELD; the pending palette list is empty
outside ACTIVE; lines are produced in ACTIVE and WAIT_FRAME alone; the wait count is at most 4095. -/
def Safe.Output (s : State) : Prop :=
  (s.otg.output ≠ .off → s.cfs.active.isSome = true)
    ∧ ¬(s.otg.holdPending.isSome = true ∧ s.otg.stopPending = true)
    ∧ (s.otg.output ≠ .active → s.otg.holdPending = none ∧ s.otg.stopPending = false ∧ s.ovc.palettePending = [])
    ∧ (s.otg.output ≠ .held ↔ s.otg.holdPosition = .none)
    ∧ (s.otg.output = .off ∨ s.otg.output = .held ↔ s.otg.phase = .idle)
    ∧ (s.otg.phase = .frameEndDue → s.otg.output = .active)
    ∧ s.otg.waitCount ≤ 4095

/-- The line position lies within the frame, and a resume line is the line after the last one produced (R81, R94). -/
def Safe.Position (s : State) : Prop :=
  ∀ b, s.cfs.active = some b →
    (s.otg.output = .active → s.otg.linePosition < b.raster.frameTotal)
      ∧ (∀ n, s.otg.holdPosition = .midFrame n → n = s.otg.linePosition + 1 ∧ n < b.raster.frameTotal)

/-- Law of the device (R148): the reply cache holds at most 4 records with distinct tags, and it is empty whenever no
session is open. -/
def Safe.Cache (s : State) : Prop :=
  s.mge.cache.length ≤ 4 ∧ (s.mge.cache.map (·.tag)).Nodup ∧ (s.mge.session = none → s.mge.cache = [])

/-- The lane (R162 to R164): while it is idle both queues are empty; the consecutive-reply count is at most 4; with the
notice queue empty no lost notice is unreported; the reserved bits of the notice mask are 0 (R161); a RESET_DONE that waits
is the oldest notice; and the lane is idle while RESET_N is low. -/
def Safe.Lane (s : State) : Prop :=
  (s.rlt.lane = .idle → s.rlt.replies = [] ∧ s.rlt.notices = [])
    ∧ s.rlt.consecutive ≤ 4
    ∧ (s.rlt.notices = [] → s.rlt.lost = 0)
    ∧ s.rlt.mask &&& reservedMaskBits = 0
    ∧ (∀ n ∈ s.rlt.notices.tail, n.kind ≠ .resetDone)
    ∧ (s.resetHeld = true → s.rlt.lane = .idle)

/-- The Link Receiver (Table 1-4, R7 to R9): in SEARCH the good run is 0..3, the bad run 0 and the timer stopped; in LOCKED
the good run is 0, the bad run 0..7 and the timer runs below 500 µs. -/
def Safe.Link (s : State) : Prop :=
  match s.lrx.lock with
  | .search => s.lrx.goodRun ≤ 3 ∧ s.lrx.badRun = 0 ∧ s.lrx.silence = none
  | .locked => s.lrx.goodRun = 0 ∧ s.lrx.badRun ≤ 7 ∧ ∃ t, s.lrx.silence = some t ∧ t < Config.silenceByteTimes

/-- The LFSR is never 0000h (R51). -/
def Safe.Lfsr (s : State) : Prop := s.lsq.lfsr ≠ 0

/-- The bound frame and the bound flag name the same frame, which is the oldest record (R17, R60). -/
def Safe.boundAgrees (bound : Option Byte) (frames : List FrameRecord) : Prop :=
  match bound with
  | none => ∀ r ∈ frames, r.bound = false
  | some t => ∃ r rest, frames = r :: rest ∧ r.tag = t ∧ r.bound = true ∧ ∀ x ∈ rest, x.bound = false

/-- The input frame list: at most 3 records with distinct tags, the bound one oldest and the Line Sequencer's; empty in
OFF; no record bound in WAIT_FRAME and in HELD at a boundary (R17, R19, R60, R61). -/
def Safe.FrameList (s : State) : Prop :=
  s.frames.length ≤ 3
    ∧ (s.frames.map (·.tag)).Nodup
    ∧ Safe.boundAgrees s.lsq.bound s.frames
    ∧ (s.otg.output = .off → s.frames = [])
    ∧ (s.otg.output = .waitFrame ∨ s.otg.holdPosition = .boundary → s.lsq.bound = none)

/-- The line store against the frame list: each record's line count stored is the number of its lines in the store, every
line belongs to a record, and the lines of one frame stand in strictly increasing order, none above the record's highest
line received (R17, R30). -/
def Safe.LineStore (s : State) : Prop :=
  (∀ l ∈ s.store, ∃ r ∈ s.frames, r.tag = l.tag)
    ∧ ∀ r ∈ s.frames,
        r.stored = (linesOf r.tag s.store).length
          ∧ ((linesOf r.tag s.store).map (·.number)).Pairwise (· < ·)
          ∧ ∀ l ∈ linesOf r.tag s.store, ∃ h, r.highest = some h ∧ l.number ≤ h

/-- A run is safe while every law holds. -/
structure Safe (s : State) : Prop where
  /-- Capacities. -/
  capacities : Safe.Capacities s
  /-- Canonical memories. -/
  memories : Safe.Memories s
  /-- The configuration law. -/
  configuration : Safe.Configuration s
  /-- The output states. -/
  output : Safe.Output s
  /-- The line position. -/
  position : Safe.Position s
  /-- The reply cache. -/
  cache : Safe.Cache s
  /-- The return lane. -/
  lane : Safe.Lane s
  /-- The Link Receiver. -/
  link : Safe.Link s
  /-- The LFSR. -/
  lfsr : Safe.Lfsr s
  /-- The input frame list. -/
  frameList : Safe.FrameList s
  /-- The line store. -/
  lineStore : Safe.LineStore s

/-! ### The terms in which claims speak of a take -/

/-- A command with a code stands at the head of the command queue, and the conditions of R145 hold: the reply queue has a
free slot and no device reset is pending; the part is not held in reset. -/
structure AtHead (s : State) (c : Command) (code : Byte) : Prop where
  /-- RESET_N is not low. -/
  running : s.resetHeld = false
  /-- The command is the oldest of the command queue. -/
  head : s.mge.commands.head? = some c
  /-- It carries the code. -/
  code : c.code = code
  /-- The reply queue has a free slot. -/
  slot : s.rlt.replies.length < 16
  /-- The device-reset-pending flag is no. -/
  noReset : s.mge.resetPending = false

/-- The command is in epoch, and its tag is not in the reply cache: it goes on to its execution (R146, steps 1 and 2). -/
structure InSession (s : State) (c : Command) : Prop where
  /-- A session is open with the command's epoch. -/
  epoch : s.inEpoch c = true
  /-- The tag is not cached. -/
  fresh : s.cached? c.tag = none

/-- The command goes on to its execution although it is not in epoch: PING, READ_STATUS and OPEN_SESSION (R146, step 1). -/
def reaches (s : State) (c : Command) : Prop := s.inEpoch c = false ∨ s.cached? c.tag = none

/-- The rows of opcode_table.json that take a command: the row, its code of Table 9-2, and whether the code is valid out of
epoch (R146, step 1); UNKNOWN_COMMAND takes every other code. -/
def commandRow (i : Instr) (code : Byte) (free : Bool) : Prop :=
  (i, code, free) ∈ ([
      (.ping, 0x01, true), (.openSession, 0x02, true), (.closeSession, 0x03, false), (.readStatus, 0x04, true),
      (.setNotices, 0x05, false), (.deviceReset, 0x06, false), (.stageRaster, 0x10, false),
      (.stageProgram, 0x11, false), (.stageProgramLength, 0x12, false), (.stagePattern, 0x13, false),
      (.insertWindow, 0x14, false), (.removeWindow, 0x15, false), (.moveWindow, 0x16, false), (.commit, 0x17, false),
      (.discard, 0x18, false), (.readConfig, 0x19, false), (.writeGlyph, 0x20, false), (.writePalette, 0x21, false),
      (.startOutput, 0x30, false), (.stopOutput, 0x31, false), (.holdOutput, 0x32, false),
      (.resumeOutput, 0x33, false), (.readCounters, 0x40, false)] : List (Instr × Byte × Bool))
    ∨ (i = .unknownCommand ∧ code ∉ knownCodes ∧ free = false)

/-- The state after the first `n` lines of a run of SHOW_THIN entry `e`, walked from its run position 0 (R43, R45). -/
def thinLines (r : Raster) (e : Entry) (s : State) : Nat → State
  | 0 => s
  | n + 1 => ((thinLines r e s n).showThin r e n).1

/-- The state whose command queue has lost its head. -/
def popped (s : State) : State := { s with mge.commands := s.mge.commands.tail }

/-! ### The terms in which claims speak of resets -/

/-- The rows that raise a link reset, by its cause (R8 to R10): the expiry of the running silence timer; and the end of an
eighth bad packet in a row, at its reception's end or at the start symbol that cuts it. -/
def linkResetRow (s : State) (i : Instr) : LossCause → Prop
  | .silence => i = .silenceTimerExpiry ∧ s.lrx.silence.isSome = true
  | .badRun => s.lrx.receiving = true ∧ s.lrx.lock = .locked ∧ 7 ≤ s.lrx.badRun
      ∧ (i = .startSymbol ∨ ∃ bytes, i = .packetReceptionEnd bytes ∧ (classify bytes).goodHeader = false)

/-- The step from `s` to `t` is a part-wide reset (R157, R158): a power-on or pin reset; or a device reset, when the DONE
reply to DEVICE_RESET is on the lane and the lane falls free, or is still queued and a link reset comes. Both can come in
the passing of time, with no command waiting. The blocks then hold their reset values. -/
def partWideReset (s t : State) : Prop :=
  (s.pending.head? = some .powerOnReset ∨ s.pending.head? = some .pinReset
    ∨ (s.resetHeld = false ∧ s.mge.resetPending = true ∧ ∃ r : Reply, r.code = 0x06 ∧ r.status = .done
        ∧ ((∃ sent, s.rlt.lane = .busy (.reply r) sent)
            ∧ (s.pending = [] ∨ s.pending.head? = some .laneFree ∨ s.pending.head? = some .deviceResetEvent)
          ∨ r ∈ s.rlt.replies
            ∧ (s.pending = [] ∨ ∃ i cause, s.pending.head? = some i ∧ linkResetRow s i cause))))
    ∧ t.frames = [] ∧ t.store = [] ∧ t.lsq = State.reset.lsq ∧ t.cfs = State.reset.cfs ∧ t.otg = State.reset.otg
    ∧ t.mge = { State.reset.mge with resetCause := t.mge.resetCause } ∧ t.ctb = State.reset.ctb

/-! ### The terms in which claims speak of packets and of the numbers of replies, notices and counters -/

/-- What Table 1-2 admits in bytes 0 to 5 of a header, by the kind in byte 0 (R4). -/
def headerAllowed (b : List Byte) : Prop :=
  ((byteAt b 0 = 1 ∨ byteAt b 0 = 4) ∧ natAt2 b 2 = 0 ∧ natAt2 b 4 = 0)
    ∨ (byteAt b 0 = 2 ∧ natAt2 b 2 ≤ 4095 ∧ 3 ≤ natAt2 b 4 ∧ natAt2 b 4 ≤ 6144 ∧ natAt2 b 4 % 3 = 0)
    ∨ (byteAt b 0 = 3 ∧ byteAt b 1 = 0 ∧ natAt2 b 2 = 0 ∧ natAt2 b 4 = 0)
    ∨ (byteAt b 0 = 5 ∧ byteAt b 1 = 0 ∧ natAt2 b 2 = 0 ∧ 4 ≤ natAt2 b 4 ∧ natAt2 b 4 ≤ 260)

/-- `pixels` are the colours that stand in `b` from byte `i` on, three bytes each: red, green, blue (Table 1-1, R122). -/
def coloursAt (b : List Byte) (i : Nat) (pixels : List Pixel) : Prop :=
  ∀ k, (h : k < pixels.length) →
    pixels[k] = byteAt b (i + 3 * k) ++ byteAt b (i + 3 * k + 1) ++ byteAt b (i + 3 * k + 2)
      ∧ red pixels[k] = byteAt b (i + 3 * k) ∧ green pixels[k] = byteAt b (i + 3 * k + 1)
      ∧ blue pixels[k] = byteAt b (i + 3 * k + 2)

/-- Table 9-3: the reply statuses with their codes. -/
def statusCodes : List (Status × Byte) :=
  [(.done, 0), (.accepted, 1), (.noSession, 2), (.staleEpoch, 3), (.unknownCommand, 4), (.badArgument, 5),
   (.stageLocked, 6), (.invalidStage, 7), (.full, 8), (.wrongState, 9), (.tagConflict, 10)]

/-- Table 10-3: the notices with their kinds. -/
def noticeKinds : List (NoticeKind × Nat) :=
  [(.resetDone, 1), (.linkLocked, 2), (.linkLost, 3), (.commitApplied, 4), (.holdReached, 5), (.outputStopped, 6),
   (.underrun, 7), (.overflow, 8), (.frameAbandoned, 9), (.coasting, 10), (.sessionExpired, 11)]

/-- Table 10-4: the counters with their indices. -/
def counterIndices : List (Counter × Nat) :=
  [(.badPacket, 0), (.mgmtDropped, 1), (.orphanLine, 2), (.orderLine, 3), (.overflowLine, 4), (.damagedLine, 5),
   (.widthMismatch, 6), (.staleLine, 7), (.missingLine, 8), (.excessLine, 9), (.abandonedFrame, 10),
   (.coastedFrame, 11), (.sequenceError, 12), (.linkLoss, 13)]

/-! ### The terms in which claims speak of the encodings of section 8.2 -/

/-- What R128 admits as the arguments of STAGE_RASTER (Table 8-1). -/
def rasterEncoded (b : List Byte) : Prop :=
  b.length = 26 ∧ (∀ k ∈ [0, 2, 4, 6, 8, 10, 12, 15, 20], natAt2 b k ≤ 4095) ∧ (byteAt b 18).toNat < 64
    ∧ ((byteAt b 25).toNat ≤ 15 ∨ byteAt b 25 = 0xFF)

/-- What R129 admits as the bytes of one program entry, from byte `k` of the arguments on (Table 8-2). -/
def entryEncoded (b : List Byte) (k : Nat) : Prop :=
  1 ≤ natAt2 b k ∧ natAt2 b k ≤ 2048 ∧ (byteAt b (k + 2)).toNat ≤ 3 ∧ (byteAt b (k + 4)).toNat ≤ 1
    ∧ (byteAt b (k + 5)).toNat ≤ 15 ∧ ((byteAt b (k + 6)).toNat ≤ 15 ∨ byteAt b (k + 6) = 0xFF)
    ∧ (byteAt b (k + 7)).toNat ≤ 1

/-- What R131 admits as the arguments of STAGE_PATTERN: an undefine of two bytes, or a definition with its bit bytes. -/
def patternEncoded (b : List Byte) : Prop :=
  (byteAt b 0).toNat ≤ 15
    ∧ (byteAt b 1 = 0xFF ∧ b.length = 2
      ∨ (byteAt b 1 = 0 ∨ byteAt b 1 = 1) ∧ 1 ≤ (byteAt b 2).toNat ∧ (byteAt b 2).toNat ≤ 64
        ∧ b.length = 3 + ((byteAt b 2).toNat + 7) / 8)

/-- What R132 admits as a window record (Table 8-3); the palette base takes every value, and so does the key byte. -/
def windowEncoded (b : List Byte) : Prop :=
  b.length = 18 ∧ (byteAt b 0).toNat ≤ 7 ∧ natAt2 b 1 ≤ 2047 ∧ natAt2 b 3 ≤ 2047
    ∧ 1 ≤ natAt2 b 5 ∧ natAt2 b 5 ≤ 2048 ∧ 1 ≤ natAt2 b 7 ∧ natAt2 b 7 ≤ 2048 ∧ natAt2 b 9 ≤ 16383
    ∧ 1 ≤ natAt2 b 11 ∧ natAt2 b 11 ≤ 2048 ∧ byteAt b 13 ∈ ([1, 2, 4, 8] : List Byte)
    ∧ (byteAt b 15).toNat ≤ 1 ∧ 1 ≤ (byteAt b 17).toNat ∧ (byteAt b 17).toNat ≤ 8

/-- Table 8-4: the items of READ_CONFIG with the selections they admit, and the data each returns of a bank. -/
def readsItem (item : Byte) (selection : List Byte) (data : Bank → List Byte) : Prop :=
  (item = 0 ∧ selection = [] ∧ data = fun b => encodeRaster b.raster)
    ∨ (item = 1 ∧ selection = [] ∧ data = fun b => [byteOf b.programLength])
    ∨ (item = 2 ∧ ∃ first count : Byte, selection = [first, count] ∧ 1 ≤ count.toNat ∧ count.toNat ≤ 28
        ∧ first.toNat + count.toNat ≤ 64
        ∧ data = fun b => ((b.program.toList.drop first.toNat).take count.toNat).flatMap encodeEntry)
    ∨ (item = 3 ∧ ∃ slot : Byte, selection = [slot] ∧ slot.toNat ≤ 15
        ∧ data = fun b => encodePattern slot.toNat (b.patterns.toList.getD slot.toNat none))
    ∨ (item = 4 ∧ selection = [] ∧ data = fun b => byteOf b.windows.length :: b.windows.flatMap encodeWindow)

end Sys2Proof
end

