-- ==== Sys2Proof/Certificates/Slice0/Obligations.lean ====
section
/-! DEFINITION. The statements for the provers. `popped s` is s without the command at the head of its command queue;
`answer` puts a command's reply into the reply queue and, in session, into the reply cache (R146 steps 4 and 5);
`settle` ends a step: the arbiter acts on what joined an idle lane (R163). Where a statement gives the next state as an
update of s, every field that is not named is unchanged. -/

open Sys2Proof Sys2Proof.Machine

/-! ### The step -/

/-- A step takes the command at the front of the queue and runs exec on the state with the queue's rest. The queue is the
model's own (log entry 21). -/
def Obligations.StepRunsFrontCommand : Prop :=
  ∀ (c : Instr) (rest : List Instr) (s : State),
    step { s with pending := c :: rest } = exec c { s with pending := rest }

/-- No command stops the part: every command answers a next state in every state, and none touches the queue of waiting
commands; every step answers a next state; while RESET_N is held low no event but the resets and the release of
RESET_N does anything, and no time passes for the part (R158). That an event the state does not permit has no effect
is the model's choice (log entry 2). A step on an empty queue is one byte time of the lane, the model's choice (log entry
4): the lane sends a byte, or after the last byte of its message falls free (R159); the running silence timer advances, or
expires at 625 byte times, 500 µs (R9); the running idle timer advances, or expires at 1250 byte times for each
millisecond of the idle limit (R152). -/
def Obligations.EveryCommandAnswersANextState : Prop :=
  (∀ (c : Instr) (s : State), ∃ t, exec c s = .next t ∧ t.pending = s.pending)
    ∧ (∀ s : State, ∃ t, step s = .next t)
    ∧ (∀ s : State, s.resetHeld = true →
      (∀ c : Instr, c ≠ .powerOnReset → c ≠ .pinReset → c ≠ .pinResetRelease → exec c s = .next s)
        ∧ (s.pending = [] → step s = .next s))
    ∧ ∀ s : State, s.resetHeld = false → s.pending = [] → ∃ s1 s2 s3, step s = .next s3
      ∧ (s.rlt.lane = .idle → s1 = s)
      ∧ (∀ m sent, s.rlt.lane = .busy m sent →
          (sent + 1 < m.length → s1 = { s with rlt.lane := .busy m (sent + 1) })
          ∧ (m.length ≤ sent + 1 → exec .laneFree s = .next s1))
      ∧ (s1.lrx.silence = none → s2 = s1)
      ∧ (∀ k, s1.lrx.silence = some k →
          (k + 1 < 625 → s2 = { s1 with lrx.silence := some (k + 1) })
          ∧ (625 ≤ k + 1 → exec .silenceTimerExpiry s1 = .next s2))
      ∧ (s2.mge.session = none → s3 = s2)
      ∧ ∀ x, s2.mge.session = some x →
          (x.idleLimit = 0 → s3 = s2)
          ∧ (x.idleLimit ≠ 0 → x.idleElapsed + 1 < 1250 * x.idleLimit.toNat →
              s3 = { s2 with mge.session := some { x with idleElapsed := x.idleElapsed + 1 } })
          ∧ (x.idleLimit ≠ 0 → 1250 * x.idleLimit.toNat ≤ x.idleElapsed + 1 →
              exec .idleTimerExpiry s2 = .next s3)

/-! ### Part-wide resets -/

/-- The state after power-on reset, block by block. R158: a power-on reset puts every block at these values with reset
cause 0 and raises RESET_DONE, which takes the lane at once; the contents of the glyph store and the palette are unknown
again: nothing is listed. R125, R79, R38: the staging bank holds the default configuration, written out: the default
raster, 64 cleared entries with n = 0, 16 undefined slots, no window. Before its RESET_DONE the lane is idle. That the
state right after reset has RESET_DONE on the lane already is deduced (log entry 16); that a power-on reset while RESET_N
is low stays held is deduced (log entry 9); the two counters of free choices are the model's own (log entry 19). -/
def Obligations.PowerOnResetGivesResetState : Prop :=
  State.reset.lrx = { lock := .search, goodRun := 0, badRun := 0, silence := none, receiving := false }
    ∧ State.reset.frames = [] ∧ State.reset.store = []
    ∧ State.reset.lsq = {
        bound := none, expected := 0, lastShown := none, underrunNoticed := false,
        coastingNoticed := false, cadence := 0, lfsr := 0xACE1 }
    ∧ State.reset.cfs = { staging := Bank.default, active := none, commitPending := none }
    ∧ State.reset.otg = {
        output := .off, holdPending := none, stopPending := false, holdPosition := .none,
        linePosition := 0, waitCount := 0, frameNumber := 0, phase := .idle }
    ∧ Bank.default = {
        raster := {
          width := 0, height := 0, hStart := 0, vStart := 0, lineTotal := 0, frameTotal := 0,
          linePulseStart := 0, linePulseWidth := 0, linePolarity := .activeHigh,
          framePulseStart := 0, framePulseWidth := 0, framePolarity := .activeHigh,
          clockIdle := false, syncMode := .locked, prime := 0, coastLimit := 0, background := 0,
          missingPolicy := .repeatLast, damagedPolicy := .showLine, blankClock := none }
        program := Vector.replicate 64 {
          runLength := 1, action := .fill, thinDivisor := 0, phaseMode := .zero,
          patternA := 0, patternB := none, invert := false, windowMask := 0 }
        programLength := 0
        patterns := Vector.replicate 16 none
        windows := [] }
    ∧ State.reset.ovc = { glyphs := [], palette := [], palettePending := [] }
    ∧ State.reset.resetHeld = false ∧ State.reset.pending = []
    ∧ State.cleared = { State.reset with rlt.lane := .idle }
    ∧ State.reset.mge = {
        commands := [], session := none, lastEpoch := none, cache := [], resetPending := false,
        resetCause := .powerOn }
    ∧ State.reset.rlt = {
        replies := [], notices := [], lost := 0, consecutive := 0, mask := 0,
        lane := .busy (.notice { kind := .resetDone, detail := 0, frame := 0 } 0) 0 }
    ∧ (∀ c : Counter, State.reset.ctb.get c = 0)
    ∧ (∀ (p : Nat) (h : Half), State.reset.pins p h = Pins.low)
    ∧ (∀ s : State, s.resetHeld = false →
      exec .powerOnReset s = .next { State.reset with
        powerOns := s.powerOns + 1, choices := s.choices, pending := s.pending })
    ∧ ∀ s : State, s.resetHeld = true →
      exec .powerOnReset s = .next { State.cleared with
        resetHeld := true, powerOns := s.powerOns + 1, choices := s.choices, pending := s.pending }

/-- R158, R164: a pin reset holds the part in reset, all pins low and the lane idle; its release completes it with reset
cause 1 and RESET_DONE detail 1 on the lane; the glyph store and the palette are kept, pending palette items lost.
When the reset cause is set is the model's choice (log entry 20). -/
def Obligations.PinResetHoldsThenCompletes : Prop :=
  (∀ s : State, ∃ t, exec .pinReset s = .next t
    ∧ t.resetHeld = true ∧ (∀ p h, t.pins p h = Pins.low) ∧ t.laneSymbol = .idle
    ∧ exec .pinResetRelease t = .next { State.reset with
        ovc := { s.ovc with palettePending := [] }
        mge.resetCause := .pin
        rlt.lane := .busy (.notice { kind := .resetDone, detail := 1, frame := 0 } 0) 0
        powerOns := s.powerOns, choices := s.choices, pending := s.pending })
    ∧ ∀ s : State, s.resetHeld = true → exec .pinResetRelease s
        = .next (State.raise { s with resetHeld := false, mge.resetCause := .pin } .resetDone 1).settle

/-- R157: at the end of transmission of the DONE reply to DEVICE_RESET every block takes its pin-reset values with reset
cause 2, and RESET_DONE detail 2 takes the free lane; LANE_FREE at that moment is the same event. A link reset, by
silence or by a bad run, that finds that reply still queued makes the device reset in the same event, and its values
prevail; the message on the lane is sent to its end; a start symbol that cut the eighth bad packet begins the next one.
How the two rows share the event is deduced (log entry 11). That the rows LANE_FREE and DEVICE_RESET_EVENT may come at any
byte of the reply, and the expiry at any moment while the timer runs, is the model's choice (log entry 4); that a start
symbol ends a reception in progress is deduced (log entry 3). -/
def Obligations.DeviceResetAtEndOfReply : Prop :=
  (∀ (s : State) (r : Reply) (sent : Nat), s.resetHeld = false → s.mge.resetPending = true →
    s.rlt.lane = .busy (.reply r) sent → r.code = 0x06 → r.status = .done →
    exec .deviceResetEvent s = .next { State.reset with
        ovc := { s.ovc with palettePending := [] }
        mge.resetCause := .device
        rlt.lane := .busy (.notice { kind := .resetDone, detail := 2, frame := 0 } 0) 0
        powerOns := s.powerOns, choices := s.choices, pending := s.pending }
      ∧ exec .laneFree s = exec .deviceResetEvent s)
  ∧ ∀ (s : State) (i : Instr) (cause : LossCause) (m : Message) (sent : Nat) (r : Reply), s.resetHeld = false →
    linkResetRow s i cause → s.mge.resetPending = true → r ∈ s.rlt.replies → r.code = 0x06 → r.status = .done →
    s.rlt.lane = .busy m sent →
    exec i s = .next { State.cleared with
      lrx.receiving := decide (i = .startSymbol)
      ovc := { s.ovc with palettePending := [] }
      mge.resetCause := .device
      rlt.notices := [{ kind := .resetDone, detail := 2, frame := 0 }]
      rlt.lane := .busy m sent
      powerOns := s.powerOns, choices := s.choices, pending := s.pending }

/-! ### The forward link -/

/-- Tables 1-1 to 1-3: a reception of any bytes is classified by the first row of Table 1-3 that holds: SHORT, CORRUPT,
MALFORMED, TRUNCATED, PAYLOAD_FAILED, GOOD, the last two alone of good header (R5); its fields stand in the bytes of
Table 1-1. The two checks have the reference values of R2 and R3. The packet a source sends for well-formed header
fields and a payload of the declared length is received whole, classified GOOD, and read back field by field; its
fingerprint is the check over its payload. Fields of more than one byte stand most significant byte first. That a
reception is given by the bytes since its start symbol is deduced (log
entry 3). -/
def Obligations.PacketsReadBack : Prop :=
  (∀ (b : List Byte) (n : Nat) (headerGood : Prop), n = natAt2 b 4 →
    (headerGood ↔ 8 ≤ b.length ∧ headerCheck (b.take 6) = wordAt2 b 6 ∧ headerAllowed b) →
    (classify b = .short ↔ b.length < 8)
    ∧ (classify b = .corrupt ↔ 8 ≤ b.length ∧ headerCheck (b.take 6) ≠ wordAt2 b 6)
    ∧ (classify b = .malformed ↔ 8 ≤ b.length ∧ headerCheck (b.take 6) = wordAt2 b 6 ∧ ¬headerAllowed b)
    ∧ (classify b = .truncated ↔ headerGood ∧ n ≠ 0 ∧ b.length < 8 + n + 4)
    ∧ (classify b = .payloadFailed ↔ headerGood ∧ n ≠ 0 ∧ 8 + n + 4 ≤ b.length
        ∧ payloadCheck ((b.drop 8).take n) ≠ wordAt4 b (8 + n))
    ∧ (classify b = .good ↔ headerGood
        ∧ (n = 0 ∨ 8 + n + 4 ≤ b.length ∧ payloadCheck ((b.drop 8).take n) = wordAt4 b (8 + n)))
    ∧ ((classify b).goodHeader = true ↔ classify b = .payloadFailed ∨ classify b = .good)
    ∧ headerOf b = { kind := (byteAt b 0).toNat, tag := byteAt b 1, number := natAt2 b 2, length := n }
    ∧ payloadOf b = (b.drop 8).take n ∧ receivedCheck b = wordAt4 b (8 + n))
  ∧ (∀ (b : List Byte) (k : Nat), byteAt b k = b.getD k 0 ∧ wordAt2 b k = byteAt b k ++ byteAt b (k + 1)
    ∧ wordAt4 b k = wordAt2 b k ++ wordAt2 b (k + 2) ∧ natAt2 b k = (wordAt2 b k).toNat)
  ∧ headerCheck [0x31, 0x32, 0x33, 0x34, 0x35, 0x36, 0x37, 0x38, 0x39] = 0x29B1
  ∧ payloadCheck [0x31, 0x32, 0x33, 0x34, 0x35, 0x36, 0x37, 0x38, 0x39] = 0xCBF43926
  ∧ ∀ (h : Header) (payload : List Byte), h.wellFormed = true → payload.length = h.length →
    classify (packetBytes h payload) = .good
      ∧ (packetBytes h payload).length = (if h.length = 0 then 8 else 8 + h.length + 4)
      ∧ headerOf (packetBytes h payload) = h
      ∧ payloadOf (packetBytes h payload) = payload
      ∧ (h.length ≠ 0 → receivedCheck (packetBytes h payload) = payloadCheck payload)

/-- R7: in SEARCH a reception's end scores the packet and discards it: a bad class sets the good run to 0, a good-header
class adds 1, and the fourth good header in a row enters LOCKED, starts the silence timer and raises LINK_LOCKED. That
the row carries the bytes since the start symbol is deduced (log entry 3). -/
def Obligations.ReceptionInSearch : Prop :=
  ∀ (s : State) (bytes : List Byte), s.resetHeld = false → s.lrx.receiving = true → s.lrx.lock = .search →
    ((classify bytes).goodHeader = false →
      exec (.packetReceptionEnd bytes) s
        = .next { s with lrx := { s.lrx with receiving := false, goodRun := 0 } }.settle)
    ∧ ((classify bytes).goodHeader = true → s.lrx.goodRun < 3 →
      exec (.packetReceptionEnd bytes) s
        = .next { s with lrx := { s.lrx with receiving := false, goodRun := s.lrx.goodRun + 1 } }.settle)
    ∧ ((classify bytes).goodHeader = true → s.lrx.goodRun = 3 →
      exec (.packetReceptionEnd bytes) s
        = .next (State.raise { s with
          lrx := { lock := .locked, goodRun := 0, badRun := 0, silence := some 0, receiving := false } }
          .linkLocked 0).settle)

/-- R8, R11, Table 1-6: in LOCKED a good-header packet sets the bad run to 0 and is routed by kind: OPEN, CLOSE and LINE
to the Line Intake (a LINE with its pixels, as damaged when its payload check failed), GAP discarded, a good MGMT to the
command queue with its fingerprint, a failed MGMT discarded and counted BAD_PACKET. That the row carries the bytes since
the start symbol is deduced (log entry 3). -/
def Obligations.GoodHeaderIsRoutedInLocked : Prop :=
  ∀ (s s1 : State) (bytes : List Byte), s.resetHeld = false → s.lrx.receiving = true → s.lrx.lock = .locked →
    (classify bytes).goodHeader = true →
    s1 = { s with lrx := { s.lrx with receiving := false, badRun := 0 } } →
    ((headerOf bytes).kind = 1 →
      exec (.packetReceptionEnd bytes) s = .next (s1.openArrival (headerOf bytes).tag).settle)
    ∧ ((headerOf bytes).kind = 2 → ∃ pixels : List Pixel,
      3 * pixels.length = (headerOf bytes).length ∧ coloursAt bytes 8 pixels
      ∧ exec (.packetReceptionEnd bytes) s = .next (s1.lineArrival
        { tag := (headerOf bytes).tag, number := (headerOf bytes).number,
          damaged := decide (classify bytes = .payloadFailed), pixels := pixels }).settle)
    ∧ ((headerOf bytes).kind = 3 → exec (.packetReceptionEnd bytes) s = .next s1.settle)
    ∧ ((headerOf bytes).kind = 4 →
      exec (.packetReceptionEnd bytes) s = .next (s1.closeArrival (headerOf bytes).tag).settle)
    ∧ ((headerOf bytes).kind = 5 → classify bytes = .good →
      exec (.packetReceptionEnd bytes) s = .next (s1.commandArrival
        { payload := payloadOf bytes, fingerprint := receivedCheck bytes }).settle)
    ∧ ((headerOf bytes).kind = 5 → classify bytes = .payloadFailed →
      exec (.packetReceptionEnd bytes) s = .next (s1.count .badPacket).settle)

/-- R8: in LOCKED a bad packet is discarded, BAD_PACKET counted and the bad run raised; the eighth in a row raises link
reset after it has been counted. R1, R9: a start symbol begins a reception and, in LOCKED, restarts the silence timer
at 0; one that finds a reception in progress ends it as a bad packet first, the eighth in a row with its link reset, and
then begins the next packet. That the start symbol itself ends a reception in progress is deduced (log entry 3). -/
def Obligations.BadPacketsAndStartSymbols : Prop :=
  (∀ (s : State) (bytes : List Byte), s.resetHeld = false → s.lrx.receiving = true → s.lrx.lock = .locked →
    (classify bytes).goodHeader = false →
    (s.lrx.badRun < 7 → exec (.packetReceptionEnd bytes) s
      = .next ({ s with lrx := { s.lrx with receiving := false, badRun := s.lrx.badRun + 1 } }.count .badPacket).settle)
    ∧ (s.lrx.badRun = 7 → exec (.packetReceptionEnd bytes) s
      = .next ((({ s with lrx.receiving := false } : State).count .badPacket).linkReset .badRun).settle))
  ∧ ∀ s : State, s.resetHeld = false →
    (s.lrx.receiving = false → s.lrx.lock = .search →
      exec .startSymbol s = .next { s with lrx.receiving := true }.settle)
    ∧ (s.lrx.receiving = false → s.lrx.lock = .locked →
      exec .startSymbol s = .next { s with lrx := { s.lrx with receiving := true, silence := some 0 } }.settle)
    ∧ (s.lrx.receiving = true → s.lrx.lock = .search →
      exec .startSymbol s = .next { s with lrx.goodRun := 0 }.settle)
    ∧ (s.lrx.receiving = true → s.lrx.lock = .locked → s.lrx.badRun < 7 →
      exec .startSymbol s = .next ({ s with
        lrx := { s.lrx with badRun := s.lrx.badRun + 1, silence := some 0 } }.count .badPacket).settle)
    ∧ (s.lrx.receiving = true → s.lrx.lock = .locked → s.lrx.badRun = 7 →
      exec .startSymbol s = .next (State.settle { (s.count .badPacket).linkReset .badRun with lrx.receiving := true }))

/-- R10, Table 1-5: a link reset with no device reset waiting behind a queued reply, by silence (LINK_LOST detail 1) and by
the eighth bad packet in a row (detail 0, BAD_PACKET counted before LINK_LOSS, R16), at its reception's end or at the start
symbol that cuts it and begins the next packet. That the silence row may come at any moment while the timer runs, and leaves
a packet in reception, are the model's choices (log entries 4 and 13); that a start symbol ends a reception in progress is
deduced (log entry 3). -/
def Obligations.SilenceExpiryResetsLink : Prop :=
  ∀ (s : State) (i : Instr) (cause : LossCause), s.resetHeld = false → linkResetRow s i cause →
    (s.mge.resetPending = true → ∀ r ∈ s.rlt.replies, ¬(r.code = 0x06 ∧ r.status = .done)) →
    ∃ t receiving, exec i s = .next t
      ∧ (i = .silenceTimerExpiry → receiving = s.lrx.receiving) ∧ (i = .startSymbol → receiving = true)
      ∧ (∀ bytes, i = .packetReceptionEnd bytes → receiving = false)
      ∧ t.lrx = { lock := .search, goodRun := 0, badRun := 0, silence := none, receiving := receiving }
      ∧ t.frames = [] ∧ t.store = []
      ∧ t.lsq = { s.lsq with bound := none }
      ∧ t.mge.commands = [] ∧ t.mge.session = none ∧ t.mge.lastEpoch = s.mge.lastEpoch
      ∧ t.mge.cache = (if s.mge.session.isSome then [] else s.mge.cache)
      ∧ t.mge.resetPending = s.mge.resetPending ∧ t.mge.resetCause = s.mge.resetCause
      ∧ t.cfs.active = s.cfs.active ∧ t.cfs.commitPending = s.cfs.commitPending
      ∧ t.cfs.staging = (if s.mge.session.isSome ∧ s.cfs.commitPending = none then s.cfs.active.getD Bank.default
          else s.cfs.staging)
      ∧ t.otg = s.otg ∧ t.ovc = s.ovc ∧ t.resetHeld = s.resetHeld ∧ t.powerOns = s.powerOns
      ∧ (cause = .silence → t.ctb = s.ctb.count .linkLoss
          ∧ t.rlt = (({ s.rlt with replies := [] } : Rlt).raise .linkLost 1 s.otg.frameNumber).settle s.choices)
      ∧ (cause = .badRun → t.ctb = (s.ctb.count .badPacket).count .linkLoss
          ∧ t.rlt = (({ s.rlt with replies := [] } : Rlt).raise .linkLost 0 s.otg.frameNumber).settle s.choices)

/-! ### Line Intake and command arrivals -/

/-- R18: the record an OPEN creates. R19 to R22: frame marks: ignored in OFF; otherwise an OPEN opens a record, abandoning
the oldest unbound one of a full list, a CLOSE closes it, and one out of place counts SEQUENCE_ERROR. -/
def Obligations.FrameMarks : Prop :=
  (∀ t : Byte, FrameRecord.opened t = {
    tag := t, state := .openReceiving, bound := false, highest := none, stored := 0, overflowNoticed := false })
  ∧ (∀ (s : State) (t : Byte), s.otg.output = .off → s.openArrival t = s ∧ s.closeArrival t = s)
  ∧ ∀ (s : State) (t : Byte), s.otg.output ≠ .off →
    ((∃ r ∈ s.frames, r.tag = t) → s.openArrival t = s.count .sequenceError)
    ∧ ((∀ r ∈ s.frames, r.tag ≠ t) → s.frames.length < 3 →
        s.openArrival t = { s with frames := s.frames ++ [FrameRecord.opened t] })
    ∧ (∀ r, (∀ x ∈ s.frames, x.tag ≠ t) → s.frames.length = 3 → s.frames.find? (fun x => !x.bound) = some r →
        s.openArrival t = State.raise (State.count { s with
          frames := s.frames.filter (fun x => !(x.tag == r.tag)) ++ [FrameRecord.opened t]
          store := s.store.filter (fun l => !(l.tag == r.tag)) } .abandonedFrame) .frameAbandoned (detailOf r.tag))
    ∧ (∀ r, s.frames.find? (·.tag == t) = some r → r.state = .openReceiving →
        s.closeArrival t = { s with
          frames := s.frames.map fun x => if x.tag = t then { x with state := .closed } else x })
    ∧ (∀ r, s.frames.find? (·.tag == t) = some r → r.state = .closed → s.closeArrival t = s.count .sequenceError)
    ∧ ((∀ r ∈ s.frames, r.tag ≠ t) → s.closeArrival t = s.count .sequenceError)

/-- R19 and Table 2-2 in order (R26, R27, R28): ignored in OFF; otherwise orphan, out of order, overflow, appended. An
overflow leaves the line store as it was; an appended line counts DAMAGED_LINE and WIDTH_MISMATCH as they apply; no other
block changes. -/
def Obligations.LineArrivalChecks : Prop :=
  (∀ (s : State) (l : LineRecord), s.otg.output = .off → s.lineArrival l = s)
  ∧ ∀ (s : State) (l : LineRecord), s.otg.output ≠ .off →
    ((∀ r ∈ s.frames, r.tag ≠ l.tag) → s.lineArrival l = s.count .orphanLine)
    ∧ ∀ r, s.frames.find? (·.tag == l.tag) = some r →
      (r.state = .closed → s.lineArrival l = s.count .orphanLine)
      ∧ (r.state = .openReceiving → (∃ h, r.highest = some h ∧ l.number ≤ h) → s.lineArrival l = s.count .orderLine)
      ∧ (r.state = .openReceiving → (∀ h, r.highest = some h → h < l.number) → 8 ≤ s.store.length →
          s.lineArrival l = { s with
            frames := s.frames.map fun x =>
              if x.tag = l.tag then { x with highest := some l.number, overflowNoticed := true } else x
            ctb := s.ctb.count .overflowLine
            rlt := if r.overflowNoticed then s.rlt else s.rlt.raise .overflow (detailOf l.tag) s.otg.frameNumber })
      ∧ (r.state = .openReceiving → (∀ h, r.highest = some h → h < l.number) → s.store.length < 8 →
          ∀ damaged mismatch : Ctb,
            damaged = (if l.damaged then s.ctb.count .damagedLine else s.ctb) →
            mismatch = (if s.cfs.active.any fun b => decide (l.pixels.length ≠ b.raster.width)
              then damaged.count .widthMismatch else damaged) →
          s.lineArrival l = { s with
            store := s.store ++ [l]
            frames := s.frames.map fun x =>
              if x.tag = l.tag then { x with highest := some l.number, stored := x.stored + 1 } else x
            ctb := mismatch })

/-- R144, R152: a command arrival joins the tail of a queue of fewer than 16, restarting the idle timer when its epoch is
the open session's; at 16 it is dropped and counted. -/
def Obligations.CommandArrivals : Prop :=
  ∀ (s : State) (c : Command),
    (s.mge.commands.length < 16 → (s.mge.session = none ∨ s.inEpoch c = false) →
        s.commandArrival c = { s with mge.commands := s.mge.commands ++ [c] })
    ∧ (∀ x, s.mge.commands.length < 16 → s.mge.session = some x → x.epoch = c.epoch →
        s.commandArrival c = { s with
          mge := { s.mge with commands := s.mge.commands ++ [c], session := some { x with idleElapsed := 0 } } })
    ∧ (s.mge.commands.length = 16 → s.commandArrival c = s.count .mgmtDropped)

/-! ### Line programs and matching -/

/-- R50, R51: the LFSR advances by a shift right of one bit, bit 15 the exclusive-or of bits 0, 2, 3 and 5; its first six
values after a part-wide reset (Table 3-3); the advance never makes a non-zero value
zero, and no two values advance to the same one. -/
def Obligations.LfsrAdvance : Prop :=
  [1, 2, 3, 4, 5, 6].map (fun n => (lfsrAdvance^[n]) 0xACE1) = [0x5670, 0xAB38, 0x559C, 0x2ACE, 0x1567, 0x8AB3]
    ∧ (∀ x : Word16, (∀ i, i < 15 → (lfsrAdvance x).getLsbD i = x.getLsbD (i + 1))
        ∧ (lfsrAdvance x).getLsbD 15 = (x.getLsbD 0 ^^ x.getLsbD 2 ^^ x.getLsbD 3 ^^ x.getLsbD 5))
    ∧ (∀ x : Word16, x ≠ 0 → lfsrAdvance x ≠ 0)
    ∧ ∀ x y : Word16, lfsrAdvance x = lfsrAdvance y → x = y

/-- R40: in a bank that passed validation every active line belongs to exactly one entry in force, at a run position below
its run length, its number being the entry's first line plus the run position. -/
def Obligations.EveryActiveLineHasARun : Prop :=
  ∀ (b : Bank) (a : Nat), b.validate = none → a < b.raster.height →
    b.entriesInForce = b.program.toList.take b.programLength
    ∧ ∃ i e p, b.entriesInForce[i]? = some e ∧ p < e.runLength
      ∧ a = ((b.entriesInForce.take i).map (·.runLength)).sum + p
      ∧ findRun b.entriesInForce a = some (e, p)
      ∧ ∀ j f q, b.entriesInForce[j]? = some f → q < f.runLength →
          a = ((b.entriesInForce.take j).map (·.runLength)).sum + q → j = i ∧ q = p

/-- R49, section 3.4: a SHOW_THIN run of L lines with divisor k and phase ZERO uses L + (L-1)/(k-1) source numbers,
whatever is in the line store. -/
def Obligations.ThinningUsesFixedNumbers : Prop :=
  ∀ (s : State) (r : Raster) (e : Entry) (n : Nat), e.phaseMode = .zero → 2 ≤ e.thinDivisor → 1 ≤ n →
    (thinLines r e s n).lsq.expected = s.lsq.expected + n + (n - 1) / (e.thinDivisor - 1)

/-- Table 4-2 (R65 to R68, R71): the outcomes of obtaining source number e; a missing number counts MISSING_LINE, the
first of a frame raising UNDERRUN with the number, and its substitute follows the missing-line policy (R70, R78). A take or
stale discard removes the frame's oldest line and lowers its record's line count stored by 1 (R31). -/
def Obligations.ObtainOutcomes : Prop :=
  ∀ (s : State) (r : Raster),
    (s.lsq.underrunNoticed = true → s.noteMissing = s.count .missingLine)
    ∧ (s.lsq.underrunNoticed = false → s.noteMissing
        = State.raise { s.count .missingLine with lsq.underrunNoticed := true } .underrun
            (BitVec.ofNat 16 s.lsq.expected))
    ∧ (r.missingPolicy = .fill → s.substitute r = .background)
    ∧ (r.missingPolicy = .repeatLast → s.lsq.lastShown = none → s.substitute r = .background)
    ∧ (∀ px, r.missingPolicy = .repeatLast → s.lsq.lastShown = some px → s.substitute r = .line px)
    ∧ (s.lsq.bound = none → s.obtain r = (s.noteMissing, s.substitute r))
    ∧ (∀ t, s.consume t = { s with
        store := s.store.eraseP (·.tag == t)
        frames := s.frames.map fun x => if x.tag = t then { x with stored := x.stored - 1 } else x })
    ∧ ∀ t, s.lsq.bound = some t →
      ((∀ l ∈ s.store, l.tag ≠ t) → s.obtain r = (s.noteMissing, s.substitute r))
      ∧ ∀ l, s.store.find? (·.tag == t) = some l →
        (s.lsq.expected < l.number → s.obtain r = (s.noteMissing, s.substitute r))
        ∧ (l.number = s.lsq.expected → l.damaged = false ∨ r.damagedPolicy = .showLine →
            s.obtain r = ({ s.consume t with lsq.lastShown := some l.pixels }, .line l.pixels))
        ∧ (l.number = s.lsq.expected → l.damaged = true → r.damagedPolicy = .asMissing →
            s.obtain r = ((s.consume t).noteMissing, s.substitute r))
        ∧ (l.number < s.lsq.expected → s.obtain r = ((s.consume t).count .staleLine).obtain r)

/-- R42, R43, R45, R47, R48: the base of a line by its run's action, and the state after it: a SHOW line is an obtain and 1
added to e; a SHOW_THIN line is an obtain with 1 added to e and to the cadence counter, after a drop when the counter stands
at k - 1. R44: a drop takes number e or discards what is stale before it, counting STALE_LINE alone and raising nothing,
and uses the number up, present or missing. -/
def Obligations.ActionsOfALine : Prop :=
  (∀ (s : State) (r : Raster) (e : Entry) (p : Nat),
    (e.action = .fill → s.walkLine r e p = (s, .background))
    ∧ (e.action = .repeatLine → s.walkLine r e p
        = (s, match s.lsq.lastShown with | some px => .line px | none => .background))
    ∧ (e.action = .showLine → s.walkLine r e p
        = ({ (s.obtain r).1 with lsq.expected := s.lsq.expected + 1 }, (s.obtain r).2))
    ∧ (e.action = .showThin → p = 0 → s.walkLine r e p = (s.setCadence e).walkLine r e 1)
    ∧ (e.phaseMode = .zero → s.setCadence e = { s with lsq.cadence := 0 })
    ∧ (e.phaseMode = .seeded → s.setCadence e = { s with lsq.cadence := s.lsq.lfsr.toNat % e.thinDivisor })
    ∧ (e.action = .showThin → p ≠ 0 → s.lsq.cadence ≠ e.thinDivisor - 1 → s.walkLine r e p
        = ({ (s.obtain r).1 with lsq := { (s.obtain r).1.lsq with
              expected := s.lsq.expected + 1, cadence := s.lsq.cadence + 1 } }, (s.obtain r).2))
    ∧ (e.action = .showThin → p ≠ 0 → s.lsq.cadence = e.thinDivisor - 1 → s.walkLine r e p
        = ({ (s.dropNumber.obtain r).1 with lsq := { (s.dropNumber.obtain r).1.lsq with
              expected := s.lsq.expected + 2, cadence := 1 } }, (s.dropNumber.obtain r).2)))
  ∧ ∀ (s : State) (lsq : Lsq), lsq = { s.lsq with expected := s.lsq.expected + 1, cadence := 0 } →
    (s.lsq.bound = none → s.dropNumber = { s with lsq := lsq })
    ∧ ∀ t, s.lsq.bound = some t →
      ((∀ l ∈ s.store, l.tag ≠ t) → s.dropNumber = { s with lsq := lsq })
      ∧ ∀ l, s.store.find? (·.tag == t) = some l →
        (s.lsq.expected < l.number → s.dropNumber = { s with lsq := lsq })
        ∧ (l.number = s.lsq.expected → s.dropNumber = { s.consume t with lsq := lsq })
        ∧ (l.number < s.lsq.expected → s.dropNumber = ((s.consume t).count .staleLine).dropNumber)

/-! ### Timing events -/

/-- R56, R82, R86, R106: the line start of a wait line and of a line outside the active area changes nothing but what the
line in progress holds: the raster's fields, the frame pulse on the lines of its extent and never on a wait line, and the
blank-line clock, its pattern not inverted or, when QUIET, the clock idle level. What the line in progress holds is deduced
(log entries 10 and 17). -/
def Obligations.LineStartOutsideTheActiveArea : Prop :=
  ∀ (s : State) (b : Bank), s.resetHeld = false → s.otg.phase = .lineStartDue → s.cfs.active = some b →
    ∃ clock : ClockRegime,
      (b.raster.blankClock = none → clock = .level b.raster.clockIdle)
      ∧ (∀ slot pat, b.raster.blankClock = some slot → b.patterns.toList.getD slot none = some pat →
          clock = .pattern pat.kind pat.bits false)
      ∧ (s.otg.output = .waitFrame →
        exec .lineStart s = .next { s with
          otg.phase := .inLine {
            kind := .wait, lineTotal := b.raster.lineTotal, hStart := b.raster.hStart, width := b.raster.width,
            pulseStart := b.raster.linePulseStart, pulseWidth := b.raster.linePulseWidth,
            pulsePolarity := b.raster.linePolarity, framePulse := decide (b.raster.framePolarity = Polarity.activeLow),
            clock := clock, dataEnded := false } }.settle)
      ∧ (s.otg.output = .active →
          s.otg.linePosition < b.raster.vStart ∨ b.raster.vStart + b.raster.height ≤ s.otg.linePosition →
        exec .lineStart s = .next { s with
          otg.phase := .inLine {
            kind := .blank, lineTotal := b.raster.lineTotal, hStart := b.raster.hStart, width := b.raster.width,
            pulseStart := b.raster.linePulseStart, pulseWidth := b.raster.linePulseWidth,
            pulsePolarity := b.raster.linePolarity,
            framePulse := decide (b.raster.framePulseStart ≤ s.otg.linePosition
                ∧ s.otg.linePosition < b.raster.framePulseStart + b.raster.framePulseWidth)
              ^^ decide (b.raster.framePolarity = Polarity.activeLow),
            clock := clock, dataEnded := false } }.settle)

/-- R41, R53, R54, R55, R85, R86, R112: the line start of active line a walks the program, takes the line and frame pulses of
the raster and the clock regime of its run, and gathers the candidate windows that the run's mask and their rows admit, with
their glyph bytes. What the line in progress holds is deduced (log entries 10 and 17). -/
def Obligations.LineStartOfAnActiveLine : Prop :=
  ∀ (s : State) (b : Bank) (e : Entry) (p a : Nat), s.resetHeld = false → s.otg.phase = .lineStartDue →
    s.otg.output = .active → s.cfs.active = some b → s.otg.linePosition = b.raster.vStart + a → a < b.raster.height →
    findRun b.entriesInForce a = some (e, p) →
    ∃ l pic, exec .lineStart s = .next { (s.walkLine b.raster e p).1 with otg.phase := .inLine l }.settle
      ∧ l.kind = .active pic ∧ l.lineTotal = b.raster.lineTotal ∧ l.hStart = b.raster.hStart
      ∧ l.width = b.raster.width ∧ l.dataEnded = false
      ∧ l.pulseStart = b.raster.linePulseStart ∧ l.pulseWidth = b.raster.linePulseWidth
      ∧ l.pulsePolarity = b.raster.linePolarity
      ∧ l.framePulse = (decide (b.raster.framePulseStart ≤ s.otg.linePosition
            ∧ s.otg.linePosition < b.raster.framePulseStart + b.raster.framePulseWidth)
          ^^ decide (b.raster.framePolarity = .activeLow))
      ∧ (∀ pat, b.patterns.toList.getD (if p % 2 = 0 then e.patternA else e.patternB.getD e.patternA) none = some pat →
          l.clock = .pattern pat.kind pat.bits e.invert)
      ∧ pic.base = (s.walkLine b.raster e p).2 ∧ pic.background = b.raster.background
      ∧ pic.candidates.map (·.window)
          = b.windows.filter (fun w => e.windowMask.getLsbD w.id && decide (w.y ≤ a) && decide (a < w.y + w.height))
      ∧ ∀ k ∈ pic.candidates, k.row.length = (k.window.width * k.window.depth + 7) / 8
          ∧ ∀ i, i < k.row.length →
              byteAt k.row i = s.glyphByte (k.window.glyphBase + (a - k.window.y) * k.window.stride + i)

/-- R123: at the active data end of a line of an ACTIVE frame the pending palette items are applied, oldest first, and the
list is emptied. R121, R123, R124: after that application, at an active data end or at an entry to another output state,
an entry that items name reads the colour of the youngest of them, every other entry reads as before. R83, R94: the line
end of line FT-1 is followed by the frame end; before it a pending LINE hold is reached, and otherwise the next line
follows, a pending FRAME hold waiting. Which event comes next is deduced (log entry 10), and so is that the line position
rises at the line end that another line follows (log entry 22). -/
def Obligations.DataEndAndLineEnd : Prop :=
  (∀ (s : State) (l : Line), s.resetHeld = false → s.otg.output = .active → s.otg.phase = .inLine l →
    l.dataEnded = false →
    exec .activeDataEnd s = .next { s with
      ovc.palette := s.ovc.palettePending.foldl applyItem s.ovc.palette
      ovc.palettePending := []
      otg.phase := .inLine { l with dataEnded := true } }.settle)
  ∧ (∀ s t : State,
    s.ovc.applyPalette = { s.ovc with
      palette := s.ovc.palettePending.foldl applyItem s.ovc.palette, palettePending := [] }
    ∧ (t.ovc = s.ovc.applyPalette → t.powerOns = s.powerOns →
      (∀ k, (∀ item ∈ s.ovc.palettePending, k < item.first ∨ item.first + item.colours.length ≤ k) →
        t.paletteColour k = s.paletteColour k)
      ∧ ∀ older item younger i, s.ovc.palettePending = older ++ item :: younger → (h : i < item.colours.length) →
        (∀ y ∈ younger, item.first + i < y.first ∨ y.first + y.colours.length ≤ item.first + i) →
        t.paletteColour (item.first + i) = item.colours[i]))
  ∧ ∀ (s : State) (l : Line) (b : Bank), s.resetHeld = false → s.otg.output = .active → s.otg.phase = .inLine l →
    l.dataEnded = true → s.cfs.active = some b →
    (s.otg.linePosition + 1 = b.raster.frameTotal →
      exec .lineEnd s = .next { s with otg.phase := .frameEndDue }.settle)
    ∧ (s.otg.linePosition + 1 < b.raster.frameTotal → s.otg.holdPending = some .line →
      exec .lineEnd s = .next (State.raise { s with
        ovc := s.ovc.applyPalette
        otg := { s.otg with output := .held, holdPending := none, phase := .idle,
                            holdPosition := .midFrame (s.otg.linePosition + 1) } } .holdReached 0).settle)
    ∧ (s.otg.linePosition + 1 < b.raster.frameTotal → s.otg.holdPending ≠ some .line →
      exec .lineEnd s = .next { s with
        otg := { s.otg with linePosition := s.otg.linePosition + 1, phase := .lineStartDue } }.settle)

/-- R84, R62: the decision at a wait line end. Which event comes next is deduced (log entry 10). -/
def Obligations.WaitLineEndDecision : Prop :=
  ∀ (s s1 : State) (l : Line) (b : Bank), s.resetHeld = false → s.otg.output = .waitFrame →
    s.otg.phase = .inLine l → s.cfs.active = some b →
    s1 = { s with otg.waitCount := min (s.otg.waitCount + 1) 4095 } →
    (b.raster.syncMode = .free → exec .waitLineEnd s = .next s1.frameStartFree.settle)
    ∧ (∀ r, b.raster.syncMode = .locked →
        s.frames.find? (fun r => !r.bound && (r.state == .closed || decide (b.raster.prime ≤ r.stored))) = some r →
        exec .waitLineEnd s = .next (s1.frameStartReady b.raster.prime r.tag).settle)
    ∧ (b.raster.syncMode = .locked →
        (∀ r ∈ s.frames, r.bound = true ∨ (r.state = .openReceiving ∧ r.stored < b.raster.prime)) →
        (b.raster.coastLimit ≤ s1.otg.waitCount → exec .waitLineEnd s = .next s1.frameStartCoast.settle)
        ∧ (s1.otg.waitCount < b.raster.coastLimit →
            exec .waitLineEnd s = .next { s1 with otg.phase := .lineStartDue }.settle))

/-- R61, R50, R99: every frame start raises the frame number, advances the LFSR, sets e to 0, the last-shown buffer to empty
and the underrun flag to no, and line 0 follows. R64: one that binds nothing, a LOCKED one by coast or a FREE one with no
unbound record (R63), counts COASTED_FRAME and notices COASTING once a stretch with the number of the starting frame.
R63: a FREE one marks the oldest unbound record bound, in the list and in the Line Sequencer. R62, R24: a LOCKED one by
readiness binds the oldest ready record, each older one being abandoned, oldest first, with its lines, ABANDONED_FRAME and
FRAME_ABANDONED with the starting frame's number. One that binds clears the coasting flag. Nothing else changes. That the
frame number rises before these notices are raised is deduced (log entry 22). -/
def Obligations.FrameStarts : Prop :=
  ∀ (s : State) (otg : Otg) (lsq : Lsq),
    otg = { s.otg with
      output := .active, holdPosition := .none, linePosition := 0, frameNumber := s.otg.frameNumber + 1,
      phase := .lineStartDue } →
    lsq = { s.lsq with
      expected := 0, lastShown := none, underrunNoticed := false, lfsr := lfsrAdvance s.lsq.lfsr } →
    (∀ t, t = s.frameStartCoast ∨ (t = s.frameStartFree ∧ ∀ r ∈ s.frames, r.bound = true) →
      t = { s with
        otg := otg
        lsq := { lsq with coastingNoticed := true }
        ctb := s.ctb.count .coastedFrame
        rlt := if s.lsq.coastingNoticed then s.rlt else s.rlt.raise .coasting 0 (s.otg.frameNumber + 1) })
    ∧ (∀ r, s.frames.find? (fun r => !r.bound) = some r → s.frameStartFree = { s with
        otg := otg
        lsq := { lsq with bound := some r.tag, coastingNoticed := false }
        frames := s.frames.map fun x => if x.tag = r.tag then { x with bound := true } else x })
    ∧ ∀ (prime : Nat) (older : List FrameRecord) (r : FrameRecord) (younger : List FrameRecord),
        s.frames = older ++ r :: younger → (s.frames.map (·.tag)).Nodup →
        (∀ x ∈ older, x.bound = false ∧ x.state = .openReceiving ∧ x.stored < prime) →
        r.bound = false → r.state = .closed ∨ prime ≤ r.stored →
        s.frameStartReady prime r.tag = { s with
          otg := otg
          lsq := { lsq with bound := some r.tag, coastingNoticed := false }
          frames := { r with bound := true } :: younger
          store := s.store.filter fun l => older.all fun x => !(x.tag == l.tag)
          ctb := s.ctb.countTimes .abandonedFrame older.length
          rlt := older.foldl
            (fun q x => q.raise .frameAbandoned (detailOf x.tag) (s.otg.frameNumber + 1)) s.rlt }

/-- R96: the steps of a frame end. The binding is released; a pending commit is applied; a pending stop enters OFF and
raises OUTPUT_STOPPED; a pending hold enters HELD at BOUNDARY and raises HOLD_REACHED with its kind; otherwise LOCKED
enters WAIT_FRAME and FREE starts the next frame. Which event comes next is deduced (log entry 10); that the line position
is left as it stood is the model's choice (log entry 25). -/
def Obligations.FrameEndSteps : Prop :=
  ∀ (s s2 : State), s.resetHeld = false → s.otg.output = .active → s.otg.phase = .frameEndDue →
    s2 = s.release.applyPendingCommit →
    (s.otg.stopPending = true → exec .frameEnd s = .next (s2.enterOff.raise .outputStopped 0).settle)
    ∧ (∀ k detail, s.otg.stopPending = false → s.otg.holdPending = some k →
        (k = .line ∧ detail = 0) ∨ (k = .frame ∧ detail = 1) →
        exec .frameEnd s = .next (State.raise { s2 with
          ovc := s2.ovc.applyPalette
          otg := { s2.otg with output := .held, holdPending := none, holdPosition := .boundary, phase := .idle } }
          .holdReached detail).settle)
    ∧ (∀ b, s2.cfs.active = some b → s2.syncMode = b.raster.syncMode)
    ∧ (s.otg.stopPending = false → s.otg.holdPending = none → s2.syncMode = .locked →
        exec .frameEnd s = .next { s2 with
          ovc := s2.ovc.applyPalette
          otg := { s2.otg with output := .waitFrame, holdPosition := .none, waitCount := 0,
                               phase := .lineStartDue } }.settle)
    ∧ (s.otg.stopPending = false → s.otg.holdPending = none → s2.syncMode = .free →
        exec .frameEnd s = .next s2.frameStartFree.settle)

/-- R25, R73, R98, R138: what a release, the application of a pending commit and an entry to OFF do. An entry to OFF applies a
pending commit with its COMMIT_APPLIED notice, releases the binding with its EXCESS_LINE counts (R35, R75), applies the
pending palette list, empties the frame list and the line store, and clears the matching state and the generator's requests
and positions. -/
def Obligations.ReleaseCommitAndEntryToOff : Prop :=
  ∀ s : State,
    (s.lsq.bound = none → s.release = s)
    ∧ (∀ t, s.lsq.bound = some t → s.release = State.countTimes { s with
        lsq.bound := none
        frames := s.frames.filter (fun r => !(r.tag == t))
        store := s.store.filter (fun l => !(l.tag == t)) } .excessLine (s.store.filter (·.tag == t)).length)
    ∧ (∀ tag, s.cfs.commitPending = some tag → s.applyPendingCommit = State.raise { s with
        cfs := { s.cfs with active := some s.cfs.staging, commitPending := none } } .commitApplied (detailOf tag))
    ∧ (s.cfs.commitPending = none → s.applyPendingCommit = s)
    ∧ s.enterOff = { s with
        frames := []
        store := []
        lsq := { s.lsq with
          bound := none, expected := 0, lastShown := none, underrunNoticed := false, coastingNoticed := false }
        cfs := s.applyPendingCommit.cfs
        otg := { s.otg with
          output := .off, holdPending := none, stopPending := false,
          holdPosition := .none, linePosition := 0, waitCount := 0, phase := .idle }
        ovc := { s.ovc with palette := s.ovc.palettePending.foldl applyItem s.ovc.palette, palettePending := [] }
        rlt := s.applyPendingCommit.rlt
        ctb := s.release.ctb }

/-! ### Output commands -/

/-- R91: START_OUTPUT. That an entry to WAIT_FRAME leaves the line position as it stood is the model's choice (log
entry 25). -/
def Obligations.StartOutputOutcomes : Prop :=
  ∀ (s : State) (c : Command), AtHead s c 0x30 → InSession s c → c.args = [] →
    (∀ b, s.otg.output = .off → s.cfs.active = some b → b.raster.syncMode = .locked →
      exec .startOutput s = .next (State.answer { popped s with
        ovc := s.ovc.applyPalette
        otg := { s.otg with output := .waitFrame, holdPosition := .none, waitCount := 0, phase := .lineStartDue } }
        c { status := .done, detail := 0, data := [] }).settle)
    ∧ (∀ b, s.otg.output = .off → s.cfs.active = some b → b.raster.syncMode = .free →
      exec .startOutput s
        = .next ((popped s).frameStartFree.answer c { status := .done, detail := 0, data := [] }).settle)
    ∧ (s.otg.output ≠ .off ∨ s.cfs.active = none →
      exec .startOutput s = .next ((popped s).answer c { status := .wrongState, detail := 0, data := [] }).settle)

/-- R92: STOP_OUTPUT. -/
def Obligations.StopOutputOutcomes : Prop :=
  ∀ (s : State) (c : Command), AtHead s c 0x31 → InSession s c → c.args = [] →
    (s.otg.output = .active → s.otg.stopPending = false →
      exec .stopOutput s = .next (State.answer { popped s with
        otg.stopPending := true, otg.holdPending := none } c { status := .accepted, detail := 0, data := [] }).settle)
    ∧ (s.otg.output = .waitFrame ∨ s.otg.output = .held →
      exec .stopOutput s = .next ((popped s).enterOff.answer c { status := .done, detail := 0, data := [] }).settle)
    ∧ ((s.otg.output = .active ∧ s.otg.stopPending = true) ∨ s.otg.output = .off →
      exec .stopOutput s = .next ((popped s).answer c { status := .wrongState, detail := 0, data := [] }).settle)

/-- R90, R93: HOLD_OUTPUT; the argument byte 0 is LINE, 1 is FRAME, and the detail of each reply carries it. That a hold
taken in WAIT_FRAME leaves the line position as it stood is the model's choice (log entry 25). -/
def Obligations.HoldOutputOutcomes : Prop :=
  ∀ (s : State) (c : Command) (k : HoldKind) (n : Byte), AtHead s c 0x32 → InSession s c → c.args = [n] →
    (k = .line ∧ n = 0) ∨ (k = .frame ∧ n = 1) →
    (s.otg.output = .active → s.otg.holdPending = none → s.otg.stopPending = false →
      exec .holdOutput s = .next (State.answer { popped s with otg.holdPending := some k } c
        { status := .accepted, detail := n, data := [] }).settle)
    ∧ (s.otg.output = .waitFrame →
      exec .holdOutput s = .next (State.answer (State.raise { popped s with
          ovc := s.ovc.applyPalette
          otg := { s.otg with output := .held, holdPending := none, holdPosition := .boundary, waitCount := 0,
                              phase := .idle } } .holdReached (detailOf n)) c
        { status := .done, detail := n, data := [] }).settle)
    ∧ ((s.otg.output = .active ∧ (s.otg.holdPending.isSome = true ∨ s.otg.stopPending = true))
        ∨ s.otg.output = .held ∨ s.otg.output = .off →
      exec .holdOutput s = .next ((popped s).answer c { status := .wrongState, detail := n, data := [] }).settle)

/-- R95: RESUME_OUTPUT. That an entry to WAIT_FRAME leaves the line position as it stood is the model's choice (log
entry 25). -/
def Obligations.ResumeOutputOutcomes : Prop :=
  ∀ (s : State) (c : Command), AtHead s c 0x33 → InSession s c → c.args = [] →
    (∀ k, s.otg.output = .active → s.otg.holdPending = some k →
      exec .resumeOutput s = .next (State.answer { popped s with otg.holdPending := none } c
        { status := .done, detail := 0, data := [] }).settle)
    ∧ (∀ n, s.otg.output = .held → s.otg.holdPosition = .midFrame n →
      exec .resumeOutput s = .next (State.answer { popped s with
        otg := { s.otg with output := .active, holdPosition := .none, linePosition := n, phase := .lineStartDue } } c
        { status := .done, detail := 0, data := [] }).settle)
    ∧ (∀ b, s.otg.output = .held → s.otg.holdPosition = .boundary → s.cfs.active = some b →
        (b.raster.syncMode = .locked → exec .resumeOutput s = .next (State.answer { popped s with
          ovc := s.ovc.applyPalette
          otg := { s.otg with output := .waitFrame, holdPosition := .none, waitCount := 0, phase := .lineStartDue } }
          c { status := .done, detail := 0, data := [] }).settle)
        ∧ (b.raster.syncMode = .free → exec .resumeOutput s
            = .next ((popped s).frameStartFree.answer c { status := .done, detail := 0, data := [] }).settle))
    ∧ ((s.otg.output = .active ∧ s.otg.holdPending = none) ∨ s.otg.output = .waitFrame ∨ s.otg.output = .off →
      exec .resumeOutput s = .next ((popped s).answer c { status := .wrongState, detail := 0, data := [] }).settle)

/-! ### Panel pins -/

/-- Table 5-3, R85 to R88: in reset every pin is low; where no line is in progress the pins are at the idle levels of the
active bank, low when it is empty; on a line LP is asserted over the line pulse, FP is the line's frame pulse, PCLK follows
the line's clock regime (R102 to R106), and data-valid is high exactly on the active pixels of an active line, where PD is
the composited pixel, and PD is 000000h elsewhere. R113: the base pixel is the line's, background beyond its end or when the
base is background. R114: the topmost candidate is laid over what the others give. R115: the glyph index of column c is the
depth's bits of its byte of the row, leftmost pixel in the most significant bits. The idle levels between two lines and before
a frame end are the model's choice (log entry 12). -/
def Obligations.PanelPins : Prop :=
  (∀ (s : State) (p : Nat) (h : Half),
    (s.resetHeld = true → s.pins p h = Pins.low)
    ∧ ((s.pins p h).dv = false → (s.pins p h).pd = 0)
    ∧ ((s.pins p h).dv = true ↔ s.resetHeld = false ∧ ∃ l pic, s.otg.phase = .inLine l ∧ l.kind = .active pic
        ∧ l.hStart ≤ p ∧ p < l.hStart + l.width)
    ∧ (s.resetHeld = false → (∀ l, s.otg.phase ≠ .inLine l) → s.cfs.active = none → s.pins p h = Pins.low)
    ∧ (∀ b, s.resetHeld = false → (∀ l, s.otg.phase ≠ .inLine l) → s.cfs.active = some b →
        s.pins p h = { pd := 0, pclk := b.raster.clockIdle, dv := false,
                       lp := decide (b.raster.linePolarity = .activeLow),
                       fp := decide (b.raster.framePolarity = .activeLow) })
    ∧ ∀ l, s.resetHeld = false → s.otg.phase = .inLine l →
        (s.pins p h).lp
          = (decide (l.pulseStart ≤ p ∧ p < l.pulseStart + l.pulseWidth) ^^ decide (l.pulsePolarity = .activeLow))
        ∧ (s.pins p h).fp = l.framePulse
        ∧ (∀ high, l.clock = .level high → (s.pins p h).pclk = high)
        ∧ (∀ kind bits invert v, l.clock = .pattern kind bits invert → bits[p % bits.length]? = some v →
            (s.pins p h).pclk = ((v && decide (kind = .level ∨ h = .first)) ^^ invert))
        ∧ ∀ pic, l.kind = .active pic → l.hStart ≤ p → p < l.hStart + l.width →
            (s.pins p h).pd = pic.pixel s (p - l.hStart))
  ∧ (∀ (s : State) (pic : Picture) (x : Nat),
    (pic.base = .background → pic.basePixel x = pic.background)
    ∧ (∀ px, pic.base = .line px →
        (∀ h : x < px.length, pic.basePixel x = px[x]) ∧ (px.length ≤ x → pic.basePixel x = pic.background))
    ∧ (pic.candidates = [] → pic.pixel s x = pic.basePixel x)
    ∧ ∀ k below, pic.candidates = k :: below →
        pic.pixel s x = k.over s x (Picture.pixel s { pic with candidates := below } x))
  ∧ ∀ (k : Candidate) (c d : Nat), d = k.window.depth → d ∈ [1, 2, 4, 8] →
    k.glyphIndex c < 2 ^ d
    ∧ ∀ i, i < d → (k.glyphIndex c).testBit i = (byteAt k.row (c * d / 8)).getLsbD (8 - d - c * d % 8 + i)

/-- R103, R104: the panel clock at pixel time p of a pattern of length L is set by its bit at p mod L (R102): LEVEL holds
it for the whole pixel time; GATE gives a pulse high in the first half and low in the second for a 1, and low
throughout for a 0; and the invert flag inverts the waveform (R105). -/
def Obligations.PanelClock : Prop :=
  ∀ (bits : List Bool) (p : Nat) (v : Bool), bits[p % bits.length]? = some v →
    (∀ h, (ClockRegime.pattern .level bits false).levelAt p h = v)
    ∧ (ClockRegime.pattern .gate bits false).levelAt p .first = v
    ∧ (ClockRegime.pattern .gate bits false).levelAt p .second = false
    ∧ ∀ k h, (ClockRegime.pattern k bits true).levelAt p h = !(ClockRegime.pattern k bits false).levelAt p h

/-- R114, R116: laying a candidate over a pixel: outside its columns, or where the glyph index is the key, the value
beneath is unchanged; otherwise it is the blend with the palette entry at palette base + index. Each channel of a
blend of weight 1..8 is (weight × colour + (8 − weight) × beneath + 4) div 8; weight 8 gives the window colour itself,
and equal colours give themselves at every weight; the result of each channel lies between the two values. -/
def Obligations.WindowOverPixel : Prop :=
  (∀ (s : State) (k : Candidate) (x : Nat) (u : Pixel),
    (x < k.window.x ∨ k.window.x + k.window.width ≤ x → k.over s x u = u)
    ∧ (k.window.x ≤ x → x < k.window.x + k.window.width →
        (k.window.key = some (k.glyphIndex (x - k.window.x)) → k.over s x u = u)
        ∧ (k.window.key ≠ some (k.glyphIndex (x - k.window.x)) →
            k.over s x u = blend k.window.weight
              (s.paletteColour (k.window.paletteBase + k.glyphIndex (x - k.window.x))) u)))
  ∧ (∀ (w : Nat) (c u : Byte), 1 ≤ w → w ≤ 8 →
    (blendByte w c u).toNat = (w * c.toNat + (8 - w) * u.toNat + 4) / 8
      ∧ min c.toNat u.toNat ≤ (blendByte w c u).toNat ∧ (blendByte w c u).toNat ≤ max c.toNat u.toNat)
    ∧ (∀ (w : Nat) (c u : Pixel), red (blend w c u) = blendByte w (red c) (red u)
      ∧ green (blend w c u) = blendByte w (green c) (green u) ∧ blue (blend w c u) = blendByte w (blue c) (blue u))
    ∧ (∀ c u : Pixel, blend 8 c u = c)
    ∧ ∀ (w : Nat) (c : Pixel), 1 ≤ w → w ≤ 8 → blend w c c = c

/-! ### Laws over all commands -/

/-- R123, R99, R138, over every step, the passing of time among them: while the output stays ACTIVE, a palette entry
changes at an active data end alone; the output frame number changes only at a frame start, where it rises by 1, which
only WAIT_LINE_END, FRAME_END, START_OUTPUT and RESUME_OUTPUT make, or at a part-wide reset; within an output frame,
running or held, the active bank changes only when a pending commit is applied, at the frame end or at a STOP_OUTPUT that
cuts a held frame, or at a part-wide reset. That a step with no command waiting is one byte time, and that LANE_FREE and
the silence expiry may come at any moment, are the model's choices (log entry 4). -/
def Obligations.ChangesOnlyAtTheirEvents : Prop :=
  ∀ s t : State, step s = .next t →
    (s.otg.output = .active → t.otg.output = .active → t.ovc.palette ≠ s.ovc.palette →
      s.pending.head? = some .activeDataEnd)
    ∧ (t.otg.frameNumber ≠ s.otg.frameNumber →
      (t.otg.frameNumber = s.otg.frameNumber + 1 ∧ t.otg.output = .active
        ∧ (s.pending.head? = some .waitLineEnd ∨ s.pending.head? = some .frameEnd
          ∨ s.pending.head? = some .startOutput ∨ s.pending.head? = some .resumeOutput))
      ∨ partWideReset s t)
    ∧ (s.otg.output = .active ∨ (s.otg.output = .held ∧ ∃ n, s.otg.holdPosition = .midFrame n) →
      t.cfs.active ≠ s.cfs.active →
      (s.cfs.commitPending.isSome = true ∧ t.cfs.active = some s.cfs.staging
        ∧ (s.pending.head? = some .frameEnd ∨ (s.pending.head? = some .stopOutput ∧ s.otg.output = .held)))
      ∨ partWideReset s t)

/-! ### General commands -/

/-- R154: PING is answered DONE with detail 0 and its own arguments as data, in session (where the reply is cached) or out
of epoch (where it is not), and changes nothing else. -/
def Obligations.PingEchoesItsArguments : Prop :=
  ∀ (s : State) (c : Command), AtHead s c 0x01 →
    (InSession s c →
      exec .ping s = .next ((popped s).answer c { status := .done, detail := 0, data := c.args }).settle)
    ∧ (s.inEpoch c = false → exec .ping s
      = .next ((popped s).queueReply (c.reply { status := .done, detail := 0, data := c.args })).settle)

/-- R155: READ_STATUS answers the 30-byte status record of Table 9-4, in or out of session, with the values at the take; the
command queue count excludes the READ_STATUS itself.
R146: an unknown code in session is refused with UNKNOWN_COMMAND. Neither changes anything else. -/
def Obligations.StatusAndUnknown : Prop :=
  ∀ (s : State) (c : Command),
    (AtHead s c 0x04 → reaches s c → c.args = [] → ∃ record : List Byte,
      exec .readStatus s
          = .next ((popped s).answer c { status := .done, detail := 0, data := record }).settle
        ∧ record.length = 30
        ∧ (s.mge.resetCause, byteAt record 0) ∈ [(ResetCause.powerOn, (0 : Byte)), (.pin, 1), (.device, 2)]
        ∧ (s.mge.session = none → byteAt record 1 = 0 ∧ wordAt2 record 2 = 0 ∧ wordAt2 record 7 = 0)
        ∧ (∀ x, s.mge.session = some x →
            byteAt record 1 = 1 ∧ wordAt2 record 2 = x.epoch ∧ wordAt2 record 7 = x.idleLimit)
        ∧ (s.mge.lastEpoch = none → byteAt record 4 = 0 ∧ wordAt2 record 5 = 0)
        ∧ (∀ e, s.mge.lastEpoch = some e → byteAt record 4 = 1 ∧ wordAt2 record 5 = e)
        ∧ (s.otg.output, byteAt record 9)
            ∈ [(OutputState.off, (0 : Byte)), (.waitFrame, 1), (.active, 2), (.held, 3)]
        ∧ (s.otg.holdPending, (byteAt record 10).extractLsb' 0 2)
            ∈ [(none, (0 : BitVec 2)), (some HoldKind.line, 1), (some HoldKind.frame, 2)]
        ∧ (byteAt record 10).getLsbD 2 = s.otg.stopPending
        ∧ (s.otg.holdPosition = .none → (byteAt record 10).extractLsb' 3 2 = 0)
        ∧ (∀ n, s.otg.holdPosition = .midFrame n → (byteAt record 10).extractLsb' 3 2 = 1)
        ∧ (s.otg.holdPosition = .boundary → (byteAt record 10).extractLsb' 3 2 = 2)
        ∧ (byteAt record 10).extractLsb' 5 3 = 0
        ∧ wordAt4 record 11 = s.otg.frameNumber
        ∧ (byteAt record 15).getLsbD 0 = s.cfs.active.isNone
        ∧ (byteAt record 15).getLsbD 1 = s.cfs.commitPending.isSome
        ∧ (byteAt record 15).extractLsb' 2 6 = 0
        ∧ byteAt record 16 = s.cfs.commitPending.getD 0
        ∧ byteAt record 17 = BitVec.ofNat 8 (s.mge.commands.length - 1)
        ∧ byteAt record 18 = BitVec.ofNat 8 s.rlt.replies.length
        ∧ byteAt record 19 = BitVec.ofNat 8 s.rlt.notices.length
        ∧ byteAt record 20 = s.rlt.lost
        ∧ byteAt record 21 = BitVec.ofNat 8 s.frames.length
        ∧ byteAt record 22 = BitVec.ofNat 8 s.store.length
        ∧ byteAt record 23 = (if s.lsq.bound.isSome then 1 else 0)
        ∧ byteAt record 24 = s.lsq.bound.getD 0
        ∧ byteAt record 25 = BitVec.ofNat 8 s.ovc.palettePending.length
        ∧ wordAt2 record 26 = s.rlt.mask
        ∧ wordAt2 record 28 = s.lsq.lfsr)
    ∧ (∀ code, AtHead s c code → code ∉ knownCodes → InSession s c →
      exec .unknownCommand s = .next ((popped s).answer c { status := .unknownCommand, detail := 0, data := [] }).settle)

/-- R150: OPEN_SESSION by the session as the take finds it. -/
def Obligations.OpenSessionOutcomes : Prop :=
  ∀ (s : State) (c : Command) (takeover hi lo : Byte), AtHead s c 0x02 → reaches s c → c.args = [takeover, hi, lo] →
    takeover = 0 ∨ takeover = 1 →
    (s.mge.session = none → s.mge.lastEpoch ≠ some c.epoch →
      exec .openSession s = .next (State.answer { popped s with mge := { (popped s).mge with
          session := some { epoch := c.epoch, idleLimit := hi ++ lo, idleElapsed := 0 }
          lastEpoch := some c.epoch, cache := [] } } c { status := .done, detail := 0, data := [] }).settle)
    ∧ (s.mge.session = none → s.mge.lastEpoch = some c.epoch →
      exec .openSession s = .next ((popped s).answer c { status := .staleEpoch, detail := 0, data := [] }).settle)
    ∧ (∀ x, s.mge.session = some x → takeover = 0 ∨ x.epoch = c.epoch →
      exec .openSession s = .next ((popped s).answer c { status := .wrongState, detail := 0, data := [] }).settle)
    ∧ (∀ x, s.mge.session = some x → takeover = 1 → x.epoch ≠ c.epoch →
      exec .openSession s = .next (State.answer { popped s with
          cfs := if s.cfs.commitPending.isSome then s.cfs
            else { s.cfs with staging := s.cfs.active.getD Bank.default }
          mge := { (popped s).mge with
            session := some { epoch := c.epoch, idleLimit := hi ++ lo, idleElapsed := 0 }
            lastEpoch := some c.epoch, cache := [] } } c { status := .done, detail := 0, data := [] }).settle)

/-- R151, R141: CLOSE_SESSION closes the session, empties the reply cache and, unless a commit is pending, sets the
staging bank equal to the active bank (the default configuration when that is empty); its reply is not cached. R152:
the expiry of a running idle timer closes the session in the same way and raises SESSION_EXPIRED with its epoch. That
the expiry may come at any moment while the timer runs is the model's choice (log entry 4). -/
def Obligations.SessionCloses : Prop :=
  (∀ (s : State) (c : Command), AtHead s c 0x03 → InSession s c → c.args = [] →
    exec .closeSession s = .next (State.queueReply { popped s with
      mge := { (popped s).mge with session := none, cache := [] }
      cfs := if s.cfs.commitPending.isSome then s.cfs
        else { s.cfs with staging := s.cfs.active.getD Bank.default } }
      (c.reply { status := .done, detail := 0, data := [] })).settle)
  ∧ ∀ (s : State) (x : Session), s.resetHeld = false → s.mge.session = some x → x.idleLimit ≠ 0 →
    exec .idleTimerExpiry s = .next (State.raise { s with
      mge := { s.mge with session := none, cache := [] }
      cfs := if s.cfs.commitPending.isSome then s.cfs
        else { s.cfs with staging := s.cfs.active.getD Bank.default } } .sessionExpired x.epoch).settle

/-- R156, R157: SET_NOTICES replaces the mask unless a reserved bit is set; DEVICE_RESET sets the device-reset-pending
flag and queues its DONE reply. -/
def Obligations.SetNoticesAndDeviceReset : Prop :=
  ∀ (s : State) (c : Command), InSession s c →
    (∀ hi lo, AtHead s c 0x05 → c.args = [hi, lo] → (hi ++ lo : Word16) &&& 0xF003 = 0 →
      exec .setNotices s = .next (State.answer { popped s with rlt.mask := hi ++ lo } c
        { status := .done, detail := 0, data := [] }).settle)
    ∧ (∀ hi lo, AtHead s c 0x05 → c.args = [hi, lo] → (hi ++ lo : Word16) &&& 0xF003 ≠ 0 →
      exec .setNotices s = .next ((popped s).answer c { status := .badArgument, detail := 0, data := [] }).settle)
    ∧ (AtHead s c 0x06 → c.args = [] →
      exec .deviceReset s = .next (State.answer { popped s with mge.resetPending := true } c
        { status := .done, detail := 0, data := [] }).settle)

/-- R166: READ_COUNTERS with flag 0 answers the fourteen counters by their indices in Table 10-4, each as two bytes,
most significant first, and with flag 1 also sets every one to 0 in the same event; other arguments give BAD_ARGUMENT
and change nothing; it needs an open session of its epoch; and a replay answers what its first take answered and clears
nothing. Counting a counter adds 1 to it alone, and leaves it at 65535; counting it n times adds n, at most to 65535. -/
def Obligations.ReadCountersReadsAndClears : Prop :=
  (∀ b : Ctb, b.bytes.length = 28 ∧ (∀ k i, (k, i) ∈ counterIndices → wordAt2 b.bytes (2 * i) = b.get k)
    ∧ (∀ k, Ctb.zero.get k = 0)
    ∧ ∀ k other, (b.count k).get other
        = if other = k then (if b.get k = 65535 then 65535 else b.get k + 1) else b.get other)
  ∧ (∀ (b : Ctb) (k other : Counter) (n : Nat), ((b.countTimes k n).get other).toNat
      = if other = k then min ((b.get k).toNat + n) 65535 else (b.get other).toNat)
  ∧ (∀ (s : State) (k : Counter) (n : Nat), s.count k = { s with ctb := s.ctb.count k }
      ∧ s.countTimes k n = { s with ctb := s.ctb.countTimes k n })
  ∧ ∀ (s : State) (c : Command), AtHead s c 0x40 →
    (InSession s c →
      (c.args = [0] → exec .readCounters s
        = .next ((popped s).answer c { status := .done, detail := 0, data := s.ctb.bytes }).settle)
      ∧ (c.args = [1] → exec .readCounters s = .next (State.answer { popped s with ctb := Ctb.zero } c
          { status := .done, detail := 0, data := s.ctb.bytes }).settle)
      ∧ (c.args ≠ [0] → c.args ≠ [1] → exec .readCounters s
        = .next ((popped s).answer c { status := .badArgument, detail := 0, data := [] }).settle))
    ∧ (s.mge.session = none → exec .readCounters s
      = .next ((popped s).queueReply (c.reply { status := .noSession, detail := 0, data := [] })).settle)
    ∧ (∀ x, s.mge.session = some x → x.epoch ≠ c.epoch → exec .readCounters s
      = .next ((popped s).queueReply (c.reply { status := .staleEpoch, detail := 0, data := [] })).settle)
    ∧ ∀ r, s.inEpoch c = true → s.cached? c.tag = some r → r.fingerprint = c.fingerprint →
      exec .readCounters s = .next ((popped s).queueReply { r.reply with replayed := true }).settle

/-- R146, steps 1 and 2, for every command row: a command in session whose tag is cached is not carried out: with an equal
fingerprint the cached reply is queued with REPLAYED set, with another TAG_CONFLICT; and out of epoch every command
but PING, READ_STATUS and OPEN_SESSION is refused with NO_SESSION when no session is open, STALE_EPOCH when another
is. Nothing else changes, and nothing is cached. -/
def Obligations.ReplayConflictAndEpochRefusals : Prop :=
  ∀ (s t : State) (c : Command) (i : Instr) (code : Byte) (free : Bool),
    commandRow i code free → AtHead s c code → t = popped s →
    (∀ r, s.inEpoch c = true → s.cached? c.tag = some r →
      (r.fingerprint = c.fingerprint → exec i s = .next (t.queueReply { r.reply with replayed := true }).settle)
      ∧ (r.fingerprint ≠ c.fingerprint →
        exec i s = .next (t.queueReply (c.reply { status := .tagConflict, detail := 0, data := [] })).settle))
    ∧ (free = false → s.mge.session = none →
      exec i s = .next (t.queueReply (c.reply { status := .noSession, detail := 0, data := [] })).settle)
    ∧ (∀ x, free = false → s.mge.session = some x → x.epoch ≠ c.epoch →
      exec i s = .next (t.queueReply (c.reply { status := .staleEpoch, detail := 0, data := [] })).settle)

/-- R146 steps 4 and 5, R147, R148: the reply, with the tag, epoch and code of the payload (Table 9-1), joins the tail of
the reply queue; in epoch it joins the reply cache as the youngest record, a cache of 4 losing its oldest. Nothing else
changes. -/
def Obligations.AnswerQueuesAndCaches : Prop :=
  ∀ (s : State) (c : Command) (r : Response) (reply : Reply) (record : CacheRecord),
    reply = { tag := c.tag, epoch := c.epoch, code := c.code, status := r.status, replayed := false,
              detail := r.detail, data := r.data } →
    record = { tag := c.tag, fingerprint := c.fingerprint, reply := reply } →
    c.reply r = reply ∧ (∀ x, s.queueReply x = { s with rlt.replies := s.rlt.replies ++ [x] })
    ∧ c.epoch = wordAt2 c.payload 0 ∧ c.tag = byteAt c.payload 2 ∧ c.code = byteAt c.payload 3
    ∧ c.args = c.payload.drop 4
    ∧ (s.inEpoch c = true ↔ ∃ x, s.mge.session = some x ∧ x.epoch = c.epoch)
    ∧ (s.cached? c.tag = none ↔ ∀ x ∈ s.mge.cache, x.tag ≠ c.tag)
    ∧ (∀ x, s.cached? c.tag = some x → x ∈ s.mge.cache ∧ x.tag = c.tag)
    ∧ (s.inEpoch c = false → s.answer c r = { s with rlt.replies := s.rlt.replies ++ [reply] })
    ∧ (s.inEpoch c = true → s.mge.cache.length < 4 → s.answer c r = { s with
        rlt.replies := s.rlt.replies ++ [reply]
        mge.cache := s.mge.cache ++ [record] })
    ∧ ∀ x rest, s.inEpoch c = true → s.mge.cache = x :: rest → rest.length = 3 → s.answer c r = { s with
        rlt.replies := s.rlt.replies ++ [reply]
        mge.cache := rest ++ [record] }

/-! ### Staging and commit -/

/-- R127 to R131: a staging write with arguments in their encoding, taken while no commit is pending, changes the staging
bank alone and is answered DONE. STAGE_PROGRAM replaces the entries from the first index on by those carried, in order, and
leaves every other entry as it was. -/
def Obligations.StagingWritesChangeStaging : Prop :=
  ∀ (s : State) (c : Command), InSession s c → s.cfs.commitPending = none →
    (∀ r, AtHead s c 0x10 → decodeRaster c.args = some r →
      exec .stageRaster s = .next (State.answer { popped s with cfs.staging.raster := r } c
        { status := .done, detail := 0, data := [] }).settle)
    ∧ (∀ (first : Byte) (es : List Entry), AtHead s c 0x11 → c.args = first :: es.flatMap encodeEntry →
        (∀ e ∈ es, decodeEntry (encodeEntry e) = some e) → 1 ≤ es.length → es.length ≤ 8 →
        first.toNat + es.length ≤ 64 →
      exec .stageProgram s = .next (State.answer { popped s with
        cfs.staging.program := Vector.ofFn fun j : Fin 64 =>
          if first.toNat ≤ j.val ∧ j.val < first.toNat + es.length then es.getD (j.val - first.toNat) Entry.cleared
          else s.cfs.staging.program[j] } c
        { status := .done, detail := 0, data := [] }).settle)
    ∧ (∀ n : Byte, AtHead s c 0x12 → c.args = [n] → 1 ≤ n.toNat → n.toNat ≤ 64 →
      exec .stageProgramLength s = .next (State.answer { popped s with cfs.staging.programLength := n.toNat } c
        { status := .done, detail := 0, data := [] }).settle)
    ∧ (∀ i p, AtHead s c 0x13 → decodePattern c.args = some (i, p) →
      exec .stagePattern s = .next (State.answer { popped s with
        cfs.staging.patterns := Vector.ofFn fun j : Fin 16 => if j.val = i then p else s.cfs.staging.patterns[j] } c
        { status := .done, detail := 0, data := [] }).settle)

/-- R132, R133: the window list operations that pass their checks, taken while no commit is pending. -/
def Obligations.WindowListOperations : Prop :=
  ∀ (s : State) (c : Command), InSession s c → s.cfs.commitPending = none →
    (∀ (position : Byte) (record : List Byte) w, AtHead s c 0x14 → c.args = position :: record →
        decodeWindow record = some w → s.cfs.staging.windows.length < 8 →
        (∀ x ∈ s.cfs.staging.windows, x.id ≠ w.id) → position.toNat ≤ s.cfs.staging.windows.length →
      exec .insertWindow s = .next (State.answer { popped s with
        cfs.staging.windows := s.cfs.staging.windows.take position.toNat
          ++ w :: s.cfs.staging.windows.drop position.toNat } c { status := .done, detail := 0, data := [] }).settle)
    ∧ (∀ id : Byte, AtHead s c 0x15 → c.args = [id] → id.toNat ≤ 7 →
        (∃ x ∈ s.cfs.staging.windows, x.id = id.toNat) →
      exec .removeWindow s = .next (State.answer { popped s with
        cfs.staging.windows := s.cfs.staging.windows.filter (fun x => !(x.id == id.toNat)) } c
        { status := .done, detail := 0, data := [] }).settle)
    ∧ (∀ (id position : Byte) w others, AtHead s c 0x16 → c.args = [id, position] → id.toNat ≤ 7 →
        s.cfs.staging.windows.find? (·.id == id.toNat) = some w → position.toNat < s.cfs.staging.windows.length →
        others = s.cfs.staging.windows.filter (fun x => !(x.id == id.toNat)) →
      exec .moveWindow s = .next (State.answer { popped s with
        cfs.staging.windows := others.take position.toNat ++ w :: others.drop position.toNat } c
        { status := .done, detail := 0, data := [] }).settle)

/-- R127 to R133: what the seven staging writes are refused with: BAD_ARGUMENT for arguments outside their encoding before
anything else, then STAGE_LOCKED while a commit is pending, then the checks against the window list in their order: FULL for
an insertion into a list of 8, BAD_ARGUMENT for an id already present or absent and for a position out of range. -/
def Obligations.StagingRefusals : Prop :=
  ∀ (s t : State) (c : Command), InSession s c → t = popped s →
    (∀ (i : Instr) (code : Byte) (inEncoding : Prop),
      (i, code, inEncoding) ∈ ([
        (.stageRaster, 0x10, rasterEncoded c.args),
        (.stageProgram, 0x11, ∃ m, 1 ≤ m ∧ m ≤ 8 ∧ c.args.length = 1 + 9 * m ∧ (byteAt c.args 0).toNat + m ≤ 64
          ∧ ∀ k, k < m → entryEncoded c.args (1 + 9 * k)),
        (.stageProgramLength, 0x12, ∃ n : Byte, c.args = [n] ∧ 1 ≤ n.toNat ∧ n.toNat ≤ 64),
        (.stagePattern, 0x13, patternEncoded c.args),
        (.insertWindow, 0x14, ∃ position record, c.args = position :: record ∧ windowEncoded record),
        (.removeWindow, 0x15, ∃ id : Byte, c.args = [id] ∧ id.toNat ≤ 7),
        (.moveWindow, 0x16, ∃ id position : Byte, c.args = [id, position] ∧ id.toNat ≤ 7)]
          : List (Instr × Byte × Prop)) →
      AtHead s c code →
      (¬inEncoding →
        exec i s = .next (t.answer c { status := .badArgument, detail := 0, data := [] }).settle)
      ∧ (inEncoding → s.cfs.commitPending.isSome = true →
        exec i s = .next (t.answer c { status := .stageLocked, detail := 0, data := [] }).settle))
    ∧ (∀ position record, AtHead s c 0x14 → c.args = position :: record → windowEncoded record →
        s.cfs.commitPending = none →
      (8 ≤ s.cfs.staging.windows.length →
        exec .insertWindow s = .next (t.answer c { status := .full, detail := 0, data := [] }).settle)
      ∧ (s.cfs.staging.windows.length < 8 →
          (∃ x ∈ s.cfs.staging.windows, x.id = (byteAt record 0).toNat)
            ∨ s.cfs.staging.windows.length < position.toNat →
        exec .insertWindow s = .next (t.answer c { status := .badArgument, detail := 0, data := [] }).settle))
    ∧ (∀ id : Byte, AtHead s c 0x15 → c.args = [id] → id.toNat ≤ 7 → s.cfs.commitPending = none →
        (∀ x ∈ s.cfs.staging.windows, x.id ≠ id.toNat) →
      exec .removeWindow s = .next (t.answer c { status := .badArgument, detail := 0, data := [] }).settle)
    ∧ ∀ id position : Byte, AtHead s c 0x16 → c.args = [id, position] → id.toNat ≤ 7 → s.cfs.commitPending = none →
        (∀ x ∈ s.cfs.staging.windows, x.id ≠ id.toNat) ∨ s.cfs.staging.windows.length ≤ position.toNat →
      exec .moveWindow s = .next (t.answer c { status := .badArgument, detail := 0, data := [] }).settle

/-- R146 step 3 with R90, R119, R122, R134, R137, R140, R150, R151, R155 to R157: arguments outside a command's own
encoding are refused with BAD_ARGUMENT, and nothing else changes: for WRITE_PALETTE, a length that is not 1 + 3n for
some n of 1 to 16, or a first index that with n exceeds 256. -/
def Obligations.BadArgumentRefusals : Prop :=
  ∀ (s t : State) (c : Command),
    t = ((popped s).answer c { status := .badArgument, detail := 0, data := [] }).settle →
    (reaches s c →
      (AtHead s c 0x04 → c.args ≠ [] → exec .readStatus s = .next t)
      ∧ (AtHead s c 0x02 → (∀ takeover hi lo, takeover = 0 ∨ takeover = 1 → c.args ≠ [takeover, hi, lo]) →
          exec .openSession s = .next t))
    ∧ (InSession s c →
      (∀ (i : Instr) (code : Byte),
        (i, code) ∈ [(Instr.closeSession, 0x03), (.deviceReset, 0x06), (.commit, 0x17), (.discard, 0x18),
          (.startOutput, 0x30), (.stopOutput, 0x31), (.resumeOutput, 0x33)] →
        AtHead s c code → c.args ≠ [] → exec i s = .next t)
      ∧ (AtHead s c 0x05 → (∀ hi lo, c.args ≠ [hi, lo]) → exec .setNotices s = .next t)
      ∧ (AtHead s c 0x32 → c.args ≠ [0] → c.args ≠ [1] → exec .holdOutput s = .next t)
      ∧ (AtHead s c 0x19 → (∀ bank item selection data, bank = 0 ∨ bank = 1 → c.args = bank :: item :: selection →
            ¬readsItem item selection data) → exec .readConfig s = .next t)
      ∧ (AtHead s c 0x20 → c.args.length < 3 → exec .writeGlyph s = .next t)
      ∧ (AtHead s c 0x21 → (∀ n, 1 ≤ n → n ≤ 16 → c.args.length = 1 + 3 * n → 256 < (byteAt c.args 0).toNat + n) →
          exec .writePalette s = .next t))

/-- R137, R138: COMMIT. -/
def Obligations.CommitOutcomes : Prop :=
  ∀ (s : State) (c : Command), AtHead s c 0x17 → InSession s c → c.args = [] →
    (s.cfs.commitPending.isSome = true →
      exec .commit s = .next ((popped s).answer c { status := .stageLocked, detail := 0, data := [] }).settle)
    ∧ (∀ f, s.cfs.commitPending = none → s.cfs.staging.validate = some f →
      exec .commit s = .next ((popped s).answer c
        { status := .invalidStage, detail := byteOf f.code, data := f.index.toList.map byteOf }).settle)
    ∧ (s.cfs.commitPending = none → s.cfs.staging.validate = none →
        s.otg.output = .off ∨ s.otg.output = .waitFrame ∨ (s.otg.output = .held ∧ s.otg.holdPosition = .boundary) →
      exec .commit s = .next (State.answer { popped s with
        cfs := { s.cfs with active := some s.cfs.staging, commitPending := none } } c
        { status := .done, detail := 0, data := [] }).settle)
    ∧ (s.cfs.commitPending = none → s.cfs.staging.validate = none →
        s.otg.output = .active ∨ (s.otg.output = .held ∧ ∃ n, s.otg.holdPosition = .midFrame n) →
      exec .commit s = .next (State.answer { popped s with cfs.commitPending := some c.tag } c
        { status := .accepted, detail := 0, data := [] }).settle)

/-- Table 8-5, R136: validation passes exactly when every one of the fourteen conditions holds; otherwise it reports the
code of the first that fails, with no index for codes 1 to 6 and 14, the lowest index of a failing entry for codes 7 and
8, the slot for code 9, and the lowest id of a failing window for codes 10 to 13. -/
def Obligations.ValidationConditions : Prop :=
  ∀ (b : Bank) (inForce : List Entry) (entryOk : Nat → Entry → Prop) (windowOk : Nat → Window → Prop)
      (conditions : List Prop),
    inForce = b.program.toList.take b.programLength →
    (∀ e, entryOk 7 e ↔ (e.action = .showThin → 2 ≤ e.thinDivisor ∧ e.thinDivisor ≤ 16)) →
    (∀ e, entryOk 8 e ↔ ((b.patterns.toList.getD e.patternA none).isSome = true
        ∧ ∀ i, e.patternB = some i → (b.patterns.toList.getD i none).isSome = true)) →
    (∀ w, windowOk 10 w ↔ (w.x + w.width ≤ b.raster.width ∧ w.y + w.height ≤ b.raster.height)) →
    (∀ w, windowOk 11 w ↔ w.glyphBase + w.stride * (w.height - 1) + (w.width * w.depth + 7) / 8 ≤ 16384) →
    (∀ w, windowOk 12 w ↔ w.paletteBase + 2 ^ w.depth - 1 ≤ 255) →
    (∀ w, windowOk 13 w ↔ ∀ k, w.key = some k → k < 2 ^ w.depth) →
    conditions = [
      1 ≤ b.raster.width ∧ b.raster.width ≤ 2048 ∧ b.raster.hStart + b.raster.width ≤ b.raster.lineTotal,
      1 ≤ b.raster.height ∧ b.raster.height ≤ 2048 ∧ b.raster.vStart + b.raster.height ≤ b.raster.frameTotal,
      1 ≤ b.raster.linePulseWidth ∧ b.raster.linePulseWidth ≤ 255
        ∧ b.raster.linePulseStart + b.raster.linePulseWidth ≤ b.raster.lineTotal,
      1 ≤ b.raster.framePulseWidth ∧ b.raster.framePulseWidth ≤ 15
        ∧ b.raster.framePulseStart + b.raster.framePulseWidth ≤ b.raster.frameTotal,
      1 ≤ b.programLength,
      (inForce.map (·.runLength)).sum = b.raster.height,
      ∀ e ∈ inForce, entryOk 7 e,
      ∀ e ∈ inForce, entryOk 8 e,
      ∀ i, b.raster.blankClock = some i → (b.patterns.toList.getD i none).isSome = true,
      ∀ w ∈ b.windows, windowOk 10 w,
      ∀ w ∈ b.windows, windowOk 11 w,
      ∀ w ∈ b.windows, windowOk 12 w,
      ∀ w ∈ b.windows, windowOk 13 w,
      1 ≤ b.raster.prime ∧ b.raster.prime ≤ 8 ∧ 1 ≤ b.raster.coastLimit ∧ b.raster.coastLimit ≤ 4095] →
    (b.validate = none ↔ ∀ condition ∈ conditions, condition)
    ∧ ∀ f, b.validate = some f →
      (1 ≤ f.code ∧ f.code ≤ 14 ∧ ¬conditions.getD (f.code - 1) True
        ∧ ∀ i, i + 1 < f.code → conditions.getD i False)
      ∧ (f.code ≤ 6 ∨ f.code = 14 → f.index = none)
      ∧ (f.code = 7 ∨ f.code = 8 → ∃ i e, f.index = some i ∧ inForce[i]? = some e ∧ ¬entryOk f.code e
          ∧ ∀ j d, j < i → inForce[j]? = some d → entryOk f.code d)
      ∧ (f.code = 9 → f.index = b.raster.blankClock)
      ∧ (10 ≤ f.code → f.code ≤ 13 → ∃ w ∈ b.windows, f.index = some w.id ∧ ¬windowOk f.code w
          ∧ ∀ x ∈ b.windows, ¬windowOk f.code x → w.id ≤ x.id)

/-- R140, R134: DISCARD cancels a pending commit (detail 1) and sets the staging bank equal to the active bank;
READ_CONFIG answers the item of the bank named as the bank holds it, by Table 8-4: the raster encoding, the program length,
the entries from the first index upward, the slot's encoding, the window records from position 0 with their count first; the
active bank while empty gives WRONG_STATE; a bank, an item or a selection that the table does not admit gives BAD_ARGUMENT.
READ_CONFIG changes nothing. -/
def Obligations.DiscardAndReadConfig : Prop :=
  ∀ (s : State) (c : Command), InSession s c →
    (AtHead s c 0x18 → c.args = [] →
      exec .discard s = .next (State.answer { popped s with
        cfs := { staging := s.cfs.active.getD Bank.default, active := s.cfs.active, commitPending := none } } c
        { status := .done, detail := if s.cfs.commitPending.isSome then 1 else 0, data := [] }).settle)
    ∧ (AtHead s c 0x19 →
      (∀ item selection data, c.args = 1 :: item :: selection → readsItem item selection data →
        exec .readConfig s = .next ((popped s).answer c
          { status := .done, detail := 0, data := data s.cfs.staging }).settle)
      ∧ (∀ item selection data b, c.args = 0 :: item :: selection → readsItem item selection data →
          s.cfs.active = some b →
        exec .readConfig s = .next ((popped s).answer c { status := .done, detail := 0, data := data b }).settle)
      ∧ (∀ item selection data, c.args = 0 :: item :: selection → readsItem item selection data →
          s.cfs.active = none →
        exec .readConfig s = .next ((popped s).answer c { status := .wrongState, detail := 0, data := [] }).settle)
      ∧ ((∀ bank item selection data, bank = 0 ∨ bank = 1 → c.args = bank :: item :: selection →
            ¬readsItem item selection data) →
        exec .readConfig s = .next ((popped s).answer c { status := .badArgument, detail := 0, data := [] }).settle))

/-! ### Overlay writes -/

/-- R119: WRITE_GLYPH writes its data bytes to consecutive addresses at once, every other address reading as before; a
range past the end of the store is refused. -/
def Obligations.WriteGlyphWritesStore : Prop :=
  ∀ (s : State) (c : Command) (hi lo : Byte) (data : List Byte), AtHead s c 0x20 → InSession s c →
    c.args = hi :: lo :: data → data ≠ [] →
    (hi.toNat * 256 + lo.toNat + data.length ≤ 16384 →
      ∀ t, t = (State.answer { popped s with
          ovc.glyphs := Cells.writeFrom s.ovc.glyphs (hi.toNat * 256 + lo.toNat) data } c
          { status := .done, detail := 0, data := [] }).settle →
      exec .writeGlyph s = .next t
      ∧ (∀ i, (h : i < data.length) → t.glyphByte (hi.toNat * 256 + lo.toNat + i) = data[i])
      ∧ ∀ a, a < hi.toNat * 256 + lo.toNat ∨ hi.toNat * 256 + lo.toNat + data.length ≤ a →
          t.glyphByte a = s.glyphByte a)
    ∧ (16384 < hi.toNat * 256 + lo.toNat + data.length →
      exec .writeGlyph s = .next ((popped s).answer c { status := .badArgument, detail := 0, data := [] }).settle)

/-- R122, Table 7-4: WRITE_PALETTE, an item of n colours of three bytes each, red, green and blue, joins the pending
list in ACTIVE, is refused with FULL when that holds 4 items, and is applied at once in every other state. R121: applied at
once, its entries then read the colours carried, every other entry as before. -/
def Obligations.WritePaletteOutcomes : Prop :=
  ∀ (s : State) (c : Command) (first : Byte) (data : List Byte) (n : Nat), AtHead s c 0x21 → InSession s c →
    c.args = first :: data → data.length = 3 * n → 1 ≤ n → n ≤ 16 → first.toNat + n ≤ 256 →
    (pixelsOf data).length = n ∧ coloursAt data 0 (pixelsOf data)
    ∧ (s.otg.output = .active → s.ovc.palettePending.length < 4 →
      exec .writePalette s = .next (State.answer { popped s with
        ovc.palettePending := s.ovc.palettePending ++ [{ first := first.toNat, colours := pixelsOf data }] } c
        { status := .accepted, detail := 0, data := [] }).settle)
    ∧ (s.otg.output = .active → 4 ≤ s.ovc.palettePending.length →
      exec .writePalette s = .next ((popped s).answer c { status := .full, detail := 0, data := [] }).settle)
    ∧ (s.otg.output ≠ .active → ∀ t, t = (State.answer { popped s with
          ovc.palette := Cells.writeFrom s.ovc.palette first.toNat (pixelsOf data) } c
          { status := .done, detail := 0, data := [] }).settle →
      exec .writePalette s = .next t
      ∧ (∀ i, (h : i < (pixelsOf data).length) → t.paletteColour (first.toNat + i) = (pixelsOf data)[i])
      ∧ ∀ k, k < first.toNat ∨ first.toNat + n ≤ k → t.paletteColour k = s.paletteColour k)

/-! ### The return lane -/

/-- R163: at a lane-free event the arbiter chooses: the oldest notice when no reply waits or four replies have gone since
the last notice, otherwise the oldest reply; nothing when both queues are empty. R164: a RESET_DONE that waits is the first
message to take the lane after its reset, whatever replies wait; that it goes before the table of R163 is deduced (log entry
24). What ends every other step, settle: a busy lane is not touched; on an idle lane what joined takes it at once, with its
lost and consecutive-reply counts (R162, R163); where a reply and a notice joined together either may be taken first, a free
choice (log entry 8), counted by the model's own counter (log entry 19), but a RESET_DONE leaves none; no other field
changes. That LANE_FREE may come at any byte of the message, not only its last, is the model's choice (log entry 4). -/
def Obligations.LaneFreeChooses : Prop :=
  (∀ (s : State) (m : Message) (sent : Nat), s.resetHeld = false → s.rlt.lane = .busy m sent →
    (s.mge.resetPending = true → ∀ r, m = .reply r → ¬(r.code = 0x06 ∧ r.status = .done)) →
    (s.rlt.notices = [] → s.rlt.replies = [] → exec .laneFree s = .next { s with rlt.lane := .idle })
    ∧ (∀ n rest, s.rlt.notices = n :: rest →
        s.rlt.replies = [] ∨ s.rlt.consecutive = 4 ∨ n.kind = .resetDone →
      exec .laneFree s = .next { s with rlt := { s.rlt with
        notices := rest, lost := 0, consecutive := 0, lane := .busy (.notice n s.rlt.lost) 0 } })
    ∧ (∀ r rest, s.rlt.replies = r :: rest →
        s.rlt.notices = [] ∨ (s.rlt.consecutive < 4 ∧ ∀ n ∈ s.rlt.notices.head?, n.kind ≠ .resetDone) →
      exec .laneFree s = .next { s with rlt := { s.rlt with
        replies := rest, consecutive := min (s.rlt.consecutive + 1) 4, lane := .busy (.reply r) 0 } }))
  ∧ ∀ s : State, s.settle.rlt = s.rlt.settle s.choices
    ∧ (∀ m sent, s.rlt.lane = .busy m sent → s.settle = s)
    ∧ (s.rlt.lane = .idle →
      (s.rlt.notices = [] → s.rlt.replies = [] → s.settle = s)
      ∧ (∀ r rest, s.rlt.replies = r :: rest → s.rlt.notices = [] → s.settle = { s with rlt := { s.rlt with
          replies := rest, consecutive := min (s.rlt.consecutive + 1) 4, lane := .busy (.reply r) 0 } })
      ∧ (∀ n rest, s.rlt.notices = n :: rest → s.rlt.replies = [] ∨ n.kind = .resetDone →
          s.settle = { s with rlt := { s.rlt with
            notices := rest, lost := 0, consecutive := 0, lane := .busy (.notice n s.rlt.lost) 0 } })
      ∧ ∀ n notices r replies, s.rlt.notices = n :: notices → s.rlt.replies = r :: replies → n.kind ≠ .resetDone →
          s.settle = { s with
            choices := s.choices + 1
            rlt := if Config.replyFirst s.choices
              then { s.rlt with
                replies := replies, consecutive := min (s.rlt.consecutive + 1) 4, lane := .busy (.reply r) 0 }
              else { s.rlt with
                notices := notices, lost := 0, consecutive := 0, lane := .busy (.notice n s.rlt.lost) 0 } })

/-- R159, Tables 9-3, 10-1, 10-2 and 10-3: a REPLY with d data bytes is sent in 14 + d bytes, a NOTICE in 13, with their
fields in the bytes of their tables, the last four of them the check over the others. A message of m bytes occupies the
lane for exactly m byte times, the first byte start-marked, and the lane then falls free; an idle lane carries idle
symbols. That a step with no command
waiting is one byte time is the model's choice (log entry 4). -/
def Obligations.MessagesOnTheLane : Prop :=
  (∀ m : Message, m.bytes.length = m.length
    ∧ (∀ r, m = .reply r → m.length = 14 + r.data.length
        ∧ byteAt m.bytes 0 = 1 ∧ byteAt m.bytes 1 = r.tag ∧ wordAt2 m.bytes 2 = r.epoch ∧ byteAt m.bytes 4 = r.code
        ∧ (r.status, byteAt m.bytes 5) ∈ statusCodes ∧ byteAt m.bytes 6 = (if r.replayed then 1 else 0)
        ∧ byteAt m.bytes 7 = r.detail ∧ wordAt2 m.bytes 8 = BitVec.ofNat 16 r.data.length
        ∧ (m.bytes.drop 10).take r.data.length = r.data)
    ∧ (∀ n lost, m = .notice n lost → m.length = 13
        ∧ byteAt m.bytes 0 = 2 ∧ (n.kind, (byteAt m.bytes 1).toNat) ∈ noticeKinds ∧ wordAt4 m.bytes 2 = n.frame
        ∧ wordAt2 m.bytes 6 = n.detail ∧ byteAt m.bytes 8 = lost)
    ∧ wordAt4 m.bytes (m.length - 4) = payloadCheck (m.bytes.take (m.length - 4)))
  ∧ (∀ s : State, s.rlt.lane = .idle → s.laneSymbol = .idle)
  ∧ ∀ (s : State) (m : Message) (run : Nat → State), s.resetHeld = false → s.pending = [] → s.lrx.silence = none →
    s.mge.session = none → s.rlt.lane = .busy m 0 → run 0 = s → (∀ k, step (run k) = .next (run (k + 1))) →
    (∀ k, k < m.length → run k = { s with rlt.lane := .busy m k }
      ∧ (run k).laneSymbol = if k = 0 then .startMarked (byteAt m.bytes 0) else .data (byteAt m.bytes k))
    ∧ exec .laneFree (run (m.length - 1)) = .next (run m.length)

/-- R161, R162, Table 10-3: a notice whose kind's bit of the mask is 1 is not raised; RESET_DONE cannot be masked; an
unmasked one joins a queue of fewer than 8 at the tail with its kind, detail and frame number, and at 8 it is lost, the
lost-notice count rising to at most 255. A tag or cause stands in the detail as its number. -/
def Obligations.RaisingANotice : Prop :=
  ∀ (s : State) (k : NoticeKind) (number : Nat) (d : Word16), (k, number) ∈ noticeKinds →
    (s.rlt.mask.getLsbD number = true → k ≠ .resetDone → s.raise k d = s)
    ∧ (s.rlt.mask.getLsbD number = false ∨ k = .resetDone → s.rlt.notices.length < 8 →
        s.raise k d = { s with rlt.notices := s.rlt.notices
          ++ [{ kind := k, detail := d, frame := s.otg.frameNumber }] })
    ∧ (s.rlt.mask.getLsbD number = false ∨ k = .resetDone → 8 ≤ s.rlt.notices.length →
        s.raise k d = { s with rlt.lost := if s.rlt.lost = 255 then 255 else s.rlt.lost + 1 })
    ∧ s.raise k d = { s with rlt := s.rlt.raise k d s.otg.frameNumber }
    ∧ ∀ b : Byte, (detailOf b).toNat = b.toNat

/-! ### Encodings -/

/-- Section 8.2: the encodings of a raster, a program entry, a pattern slot and a window record (R126, Tables 8-1 to 8-3). An
item with every field within its range is read back as itself from its encoding; the encoding holds each field in the bytes
of its table; and what is read from bytes encodes to those bytes again, but for the key byte of a window whose key is absent
and the bits beyond a pattern's length, which are not held. -/
def Obligations.StagedItemsReadBack : Prop :=
  (∀ r : Raster, r.width ≤ 4095 → r.height ≤ 4095 → r.hStart ≤ 4095 → r.vStart ≤ 4095 → r.lineTotal ≤ 4095 →
    r.frameTotal ≤ 4095 → r.linePulseStart ≤ 4095 → r.linePulseWidth ≤ 255 → r.framePulseStart ≤ 4095 →
    r.framePulseWidth ≤ 255 → r.prime ≤ 255 → r.coastLimit ≤ 4095 → (∀ i, r.blankClock = some i → i ≤ 15) →
    ∀ b, b = encodeRaster r → decodeRaster b = some r
      ∧ [0, 2, 4, 6, 8, 10, 12, 15, 20].map (natAt2 b)
          = [r.width, r.height, r.hStart, r.vStart, r.lineTotal, r.frameTotal, r.linePulseStart, r.framePulseStart,
             r.coastLimit]
      ∧ [14, 17, 19].map (fun k => (byteAt b k).toNat) = [r.linePulseWidth, r.framePulseWidth, r.prime]
      ∧ [0, 1, 2, 3, 4, 5, 6, 7].map (byteAt b 18).getLsbD
          = [decide (r.linePolarity = .activeLow), decide (r.framePolarity = .activeLow), r.clockIdle,
             decide (r.syncMode = .free), decide (r.missingPolicy = .fill), decide (r.damagedPolicy = .asMissing), false,
             false]
      ∧ byteAt b 22 ++ byteAt b 23 ++ byteAt b 24 = r.background
      ∧ (r.blankClock = none → byteAt b 25 = 0xFF) ∧ ∀ i, r.blankClock = some i → (byteAt b 25).toNat = i)
  ∧ (∀ e : Entry, 1 ≤ e.runLength → e.runLength ≤ 2048 → e.thinDivisor ≤ 255 → e.patternA ≤ 15 →
    (∀ i, e.patternB = some i → i ≤ 15) →
    ∀ b, b = encodeEntry e → decodeEntry b = some e ∧ natAt2 b 0 = e.runLength
      ∧ (e.action, byteAt b 2) ∈ [(Action.showLine, (0 : Byte)), (.showThin, 1), (.repeatLine, 2), (.fill, 3)]
      ∧ (byteAt b 3).toNat = e.thinDivisor ∧ (e.phaseMode, byteAt b 4) ∈ [(PhaseMode.zero, (0 : Byte)), (.seeded, 1)]
      ∧ (byteAt b 5).toNat = e.patternA ∧ (e.patternB = none → byteAt b 6 = 0xFF)
      ∧ (∀ i, e.patternB = some i → (byteAt b 6).toNat = i) ∧ byteAt b 7 = (if e.invert then 1 else 0)
      ∧ byteAt b 8 = e.windowMask)
  ∧ (∀ (slot : Nat) (p : Pattern), slot ≤ 15 → 1 ≤ p.bits.length → p.bits.length ≤ 64 →
    decodePattern (encodePattern slot (some p)) = some (slot, some p))
  ∧ (∀ slot : Nat, slot ≤ 15 → decodePattern (encodePattern slot none) = some (slot, none))
  ∧ (∀ w : Window, w.id ≤ 7 → w.x ≤ 2047 → w.y ≤ 2047 → 1 ≤ w.width → w.width ≤ 2048 → 1 ≤ w.height →
      w.height ≤ 2048 → w.glyphBase ≤ 16383 → 1 ≤ w.stride → w.stride ≤ 2048 →
      (w.depth = 1 ∨ w.depth = 2 ∨ w.depth = 4 ∨ w.depth = 8) → w.paletteBase ≤ 255 →
      (∀ k, w.key = some k → k ≤ 255) → 1 ≤ w.weight → w.weight ≤ 8 →
    ∀ b, b = encodeWindow w → decodeWindow b = some w
      ∧ [1, 3, 5, 7, 9, 11].map (natAt2 b) = [w.x, w.y, w.width, w.height, w.glyphBase, w.stride]
      ∧ [0, 13, 14, 17].map (fun k => (byteAt b k).toNat) = [w.id, w.depth, w.paletteBase, w.weight]
      ∧ (w.key = none → byteAt b 15 = 0 ∧ byteAt b 16 = 0)
      ∧ ∀ k, w.key = some k → byteAt b 15 = 1 ∧ (byteAt b 16).toNat = k)
  ∧ ∀ b : List Byte,
    (∀ r, decodeRaster b = some r → encodeRaster r = b) ∧ (∀ e, decodeEntry b = some e → encodeEntry e = b)
    ∧ (∀ slot, decodePattern b = some (slot, none) → encodePattern slot none = b)
    ∧ (∀ slot p, decodePattern b = some (slot, some p) → (byteAt b 0).toNat = slot
        ∧ (p.kind, byteAt b 1) ∈ [(PatternKind.level, (0 : Byte)), (.gate, 1)]
        ∧ p.bits.length = (byteAt b 2).toNat
        ∧ ∀ i, i < p.bits.length → p.bits[i]? = some ((byteAt b (3 + i / 8)).getLsbD (7 - i % 8)))
    ∧ ∀ w, decodeWindow b = some w → encodeWindow w = if byteAt b 15 = 1 then b else b.set 16 0

/-! ### Invariants -/

/-- Every law of the device holds right after reset. -/
def Obligations.ResetIsSafe : Prop := Safe State.reset

/-- R125, R148, R161 to R164: every step keeps the law that the active bank is empty or passed every commit check, and
that the staging bank of a pending commit is one that passed; and the law that the reply cache holds at most 4 records
with distinct tags and is empty whenever no session is open; and the laws of the return lane. -/
def Obligations.StepKeepsConfigurationCacheAndLaneLaws : Prop :=
  ∀ s t : State, step s = .next t →
    (Safe.Configuration s → Safe.Configuration t) ∧ (Safe.Cache s → Safe.Cache t) ∧ (Safe.Lane s → Safe.Lane t)

/-- R118, R121 and the capacities: every step keeps the canonical form of the glyph store and the palette, and no
collection exceeds its capacity. -/
def Obligations.StepKeepsMemoriesAndCapacities : Prop :=
  ∀ s t : State, Safe.Memories s ∧ Safe.Capacities s → step s = .next t → Safe.Memories t ∧ Safe.Capacities t

/-- R81, R124: every step keeps the laws of the output states and the line position, given the configuration law. -/
def Obligations.StepKeepsOutputLaw : Prop :=
  ∀ s t : State, Safe.Configuration s → Safe.Output s ∧ Safe.Position s → step s = .next t →
    Safe.Output t ∧ Safe.Position t

/-- R17, R30, R60: every step keeps the input frame list and the line store in agreement with each other and with the Line
Sequencer's binding, given the law of the output states. -/
def Obligations.StepKeepsFramesAndLines : Prop :=
  ∀ s t : State, Safe.Output s → Safe.FrameList s ∧ Safe.LineStore s → step s = .next t →
    Safe.FrameList t ∧ Safe.LineStore t

/-- Every step, of any command in any state where the laws of the device hold, keeps every one of them. -/
def Obligations.StepKeepsEveryLaw : Prop := ∀ s t : State, Safe s → step s = .next t → Safe t
end

