-- ==== Sys2Proof/Laws/Cells.lean ====
section
/-! SUPPORT. The glyph store and the palette: every write keeps the canonical form, a read after a write gives the value
written, and a write leaves every other address alone. -/

namespace Sys2Proof.Machine

variable {α : Type}

@[simp] theorem Cells.read?_write_same (m : List (Nat × α)) (a : Nat) (v : α) :
    Cells.read? (Cells.write m a v) a = some v := by
  induction m with
  | nil => simp [Cells.write, Cells.read?]
  | cons p rest ih =>
    obtain ⟨b, u⟩ := p
    simp only [Cells.write]
    split
    · simp [Cells.read?]
    · split
      · simp [Cells.read?]
      · rename_i h1 h2
        simp [Cells.read?, Ne.symm h2, ih]

@[simp] theorem Cells.read?_write_other (m : List (Nat × α)) (a b : Nat) (v : α) (h : b ≠ a) :
    Cells.read? (Cells.write m a v) b = Cells.read? m b := by
  induction m with
  | nil => simp [Cells.write, Cells.read?, Ne.symm h]
  | cons p rest ih =>
    obtain ⟨c, u⟩ := p
    simp only [Cells.write]
    split
    · simp [Cells.read?, Ne.symm h]
    · split
      · rename_i h1 h2
        subst h2
        simp [Cells.read?, Ne.symm h]
      · simp [Cells.read?, ih]

/-- Writing consecutive values leaves every address outside them alone. -/
theorem Cells.read?_writeFrom_outside (vs : List α) (m : List (Nat × α)) (a b : Nat)
    (h : b < a ∨ a + vs.length ≤ b) : Cells.read? (Cells.writeFrom m a vs) b = Cells.read? m b := by
  induction vs generalizing m a with
  | nil => rfl
  | cons v rest ih =>
    simp only [List.length_cons] at h
    rw [Cells.writeFrom, ih _ _ (by omega), Cells.read?_write_other _ _ _ _ (by omega)]

/-- Reading inside the written values gives the value written there. -/
theorem Cells.read?_writeFrom_inside (vs : List α) (m : List (Nat × α)) (a i : Nat) (h : i < vs.length) :
    Cells.read? (Cells.writeFrom m a vs) (a + i) = some vs[i] := by
  induction vs generalizing m a i with
  | nil => simp at h
  | cons v rest ih =>
    cases i with
    | zero =>
      rw [Cells.writeFrom, Cells.read?_writeFrom_outside _ _ _ _ (Or.inl (by omega))]
      simp
    | succ k =>
      have := ih (Cells.write m a v) (a + 1) k (by simpa using h)
      rw [Cells.writeFrom, show a + (k + 1) = a + 1 + k by omega, this]
      simp

/-- Writing at or above `low` keeps the addresses rising from `low`. -/
theorem Cells.risingFrom_write (size : Nat) (m : List (Nat × α)) (low a : Nat) (v : α)
    (h : Cells.risingFrom size low m = true) (hl : low ≤ a) (ha : a < size) :
    Cells.risingFrom size low (Cells.write m a v) = true := by
  induction m generalizing low with
  | nil => simp [Cells.write, Cells.risingFrom, hl, ha]
  | cons p rest ih =>
    obtain ⟨b, u⟩ := p
    simp only [Cells.risingFrom, Bool.and_eq_true, decide_eq_true_eq] at h
    simp only [Cells.write]
    split
    · rename_i hab
      simp only [Cells.risingFrom, Bool.and_eq_true, decide_eq_true_eq]
      exact ⟨⟨hl, ha⟩, ⟨by omega, h.1.2⟩, h.2⟩
    · split
      · rename_i hab
        subst hab
        simp only [Cells.risingFrom, Bool.and_eq_true, decide_eq_true_eq]
        exact ⟨⟨hl, ha⟩, h.2⟩
      · simp only [Cells.risingFrom, Bool.and_eq_true, decide_eq_true_eq]
        exact ⟨h.1, ih _ h.2 (by omega)⟩

/-- A write inside the address space keeps the canonical form. -/
theorem Cells.wf_write (size : Nat) (m : List (Nat × α)) (a : Nat) (v : α) (h : Cells.wf size m = true)
    (ha : a < size) : Cells.wf size (Cells.write m a v) = true :=
  Cells.risingFrom_write size m 0 a v h (Nat.zero_le a) ha

/-- Consecutive writes inside the address space keep the canonical form. -/
theorem Cells.wf_writeFrom (size : Nat) (vs : List α) (m : List (Nat × α)) (a : Nat) (h : Cells.wf size m = true)
    (ha : a + vs.length ≤ size) : Cells.wf size (Cells.writeFrom m a vs) = true := by
  induction vs generalizing m a with
  | nil => exact h
  | cons v rest ih =>
    simp only [List.length_cons] at ha
    exact ih _ _ (Cells.wf_write size m a v h (by omega)) (by omega)

/-- Below the rising addresses nothing is listed. -/
theorem Cells.risingFrom_read?_below (size : Nat) (m : List (Nat × α)) (low a : Nat)
    (h : Cells.risingFrom size low m = true) (ha : a < low) : Cells.read? m a = none := by
  induction m generalizing low with
  | nil => rfl
  | cons p rest ih =>
    obtain ⟨b, u⟩ := p
    simp only [Cells.risingFrom, Bool.and_eq_true, decide_eq_true_eq] at h
    have hb : b ≠ a := by omega
    simp [Cells.read?, hb, ih (b + 1) h.2 (by omega)]

end Sys2Proof.Machine
end

