-- ==== Sys2Proof/Laws/State.lean ====
section
/-! SUPPORT. One lemma for each field and each named update of State, true by rfl; the touched fields of each update; and
the update of each block. -/

namespace Sys2Proof.Machine

variable (s : State)

/-! ### State.count -/

@[simp] theorem State.count_lrx (c : Counter) : (s.count c).lrx = s.lrx := rfl
@[simp] theorem State.count_frames (c : Counter) : (s.count c).frames = s.frames := rfl
@[simp] theorem State.count_store (c : Counter) : (s.count c).store = s.store := rfl
@[simp] theorem State.count_lsq (c : Counter) : (s.count c).lsq = s.lsq := rfl
@[simp] theorem State.count_cfs (c : Counter) : (s.count c).cfs = s.cfs := rfl
@[simp] theorem State.count_otg (c : Counter) : (s.count c).otg = s.otg := rfl
@[simp] theorem State.count_ovc (c : Counter) : (s.count c).ovc = s.ovc := rfl
@[simp] theorem State.count_mge (c : Counter) : (s.count c).mge = s.mge := rfl
@[simp] theorem State.count_rlt (c : Counter) : (s.count c).rlt = s.rlt := rfl
@[simp] theorem State.count_resetHeld (c : Counter) : (s.count c).resetHeld = s.resetHeld := rfl
@[simp] theorem State.count_powerOns (c : Counter) : (s.count c).powerOns = s.powerOns := rfl
@[simp] theorem State.count_choices (c : Counter) : (s.count c).choices = s.choices := rfl
@[simp] theorem State.count_pending (c : Counter) : (s.count c).pending = s.pending := rfl

/-! ### State.countTimes -/

@[simp] theorem State.countTimes_lrx (c : Counter) (n : Nat) : (s.countTimes c n).lrx = s.lrx := rfl
@[simp] theorem State.countTimes_frames (c : Counter) (n : Nat) : (s.countTimes c n).frames = s.frames := rfl
@[simp] theorem State.countTimes_store (c : Counter) (n : Nat) : (s.countTimes c n).store = s.store := rfl
@[simp] theorem State.countTimes_lsq (c : Counter) (n : Nat) : (s.countTimes c n).lsq = s.lsq := rfl
@[simp] theorem State.countTimes_cfs (c : Counter) (n : Nat) : (s.countTimes c n).cfs = s.cfs := rfl
@[simp] theorem State.countTimes_otg (c : Counter) (n : Nat) : (s.countTimes c n).otg = s.otg := rfl
@[simp] theorem State.countTimes_ovc (c : Counter) (n : Nat) : (s.countTimes c n).ovc = s.ovc := rfl
@[simp] theorem State.countTimes_mge (c : Counter) (n : Nat) : (s.countTimes c n).mge = s.mge := rfl
@[simp] theorem State.countTimes_rlt (c : Counter) (n : Nat) : (s.countTimes c n).rlt = s.rlt := rfl
@[simp] theorem State.countTimes_resetHeld (c : Counter) (n : Nat) : (s.countTimes c n).resetHeld = s.resetHeld := rfl
@[simp] theorem State.countTimes_powerOns (c : Counter) (n : Nat) : (s.countTimes c n).powerOns = s.powerOns := rfl
@[simp] theorem State.countTimes_choices (c : Counter) (n : Nat) : (s.countTimes c n).choices = s.choices := rfl
@[simp] theorem State.countTimes_pending (c : Counter) (n : Nat) : (s.countTimes c n).pending = s.pending := rfl

/-! ### State.raise -/

@[simp] theorem State.raise_lrx (k : NoticeKind) (d : Word16) : (s.raise k d).lrx = s.lrx := rfl
@[simp] theorem State.raise_frames (k : NoticeKind) (d : Word16) : (s.raise k d).frames = s.frames := rfl
@[simp] theorem State.raise_store (k : NoticeKind) (d : Word16) : (s.raise k d).store = s.store := rfl
@[simp] theorem State.raise_lsq (k : NoticeKind) (d : Word16) : (s.raise k d).lsq = s.lsq := rfl
@[simp] theorem State.raise_cfs (k : NoticeKind) (d : Word16) : (s.raise k d).cfs = s.cfs := rfl
@[simp] theorem State.raise_otg (k : NoticeKind) (d : Word16) : (s.raise k d).otg = s.otg := rfl
@[simp] theorem State.raise_ovc (k : NoticeKind) (d : Word16) : (s.raise k d).ovc = s.ovc := rfl
@[simp] theorem State.raise_mge (k : NoticeKind) (d : Word16) : (s.raise k d).mge = s.mge := rfl
@[simp] theorem State.raise_ctb (k : NoticeKind) (d : Word16) : (s.raise k d).ctb = s.ctb := rfl
@[simp] theorem State.raise_resetHeld (k : NoticeKind) (d : Word16) : (s.raise k d).resetHeld = s.resetHeld := rfl
@[simp] theorem State.raise_powerOns (k : NoticeKind) (d : Word16) : (s.raise k d).powerOns = s.powerOns := rfl
@[simp] theorem State.raise_choices (k : NoticeKind) (d : Word16) : (s.raise k d).choices = s.choices := rfl
@[simp] theorem State.raise_pending (k : NoticeKind) (d : Word16) : (s.raise k d).pending = s.pending := rfl

/-! ### State.settle -/

@[simp] theorem State.settle_lrx : (s.settle).lrx = s.lrx := rfl
@[simp] theorem State.settle_frames : (s.settle).frames = s.frames := rfl
@[simp] theorem State.settle_store : (s.settle).store = s.store := rfl
@[simp] theorem State.settle_lsq : (s.settle).lsq = s.lsq := rfl
@[simp] theorem State.settle_cfs : (s.settle).cfs = s.cfs := rfl
@[simp] theorem State.settle_otg : (s.settle).otg = s.otg := rfl
@[simp] theorem State.settle_ovc : (s.settle).ovc = s.ovc := rfl
@[simp] theorem State.settle_mge : (s.settle).mge = s.mge := rfl
@[simp] theorem State.settle_ctb : (s.settle).ctb = s.ctb := rfl
@[simp] theorem State.settle_resetHeld : (s.settle).resetHeld = s.resetHeld := rfl
@[simp] theorem State.settle_powerOns : (s.settle).powerOns = s.powerOns := rfl
@[simp] theorem State.settle_pending : (s.settle).pending = s.pending := rfl

/-! ### State.queueReply -/

@[simp] theorem State.queueReply_lrx (r : Reply) : (s.queueReply r).lrx = s.lrx := rfl
@[simp] theorem State.queueReply_frames (r : Reply) : (s.queueReply r).frames = s.frames := rfl
@[simp] theorem State.queueReply_store (r : Reply) : (s.queueReply r).store = s.store := rfl
@[simp] theorem State.queueReply_lsq (r : Reply) : (s.queueReply r).lsq = s.lsq := rfl
@[simp] theorem State.queueReply_cfs (r : Reply) : (s.queueReply r).cfs = s.cfs := rfl
@[simp] theorem State.queueReply_otg (r : Reply) : (s.queueReply r).otg = s.otg := rfl
@[simp] theorem State.queueReply_ovc (r : Reply) : (s.queueReply r).ovc = s.ovc := rfl
@[simp] theorem State.queueReply_mge (r : Reply) : (s.queueReply r).mge = s.mge := rfl
@[simp] theorem State.queueReply_ctb (r : Reply) : (s.queueReply r).ctb = s.ctb := rfl
@[simp] theorem State.queueReply_resetHeld (r : Reply) : (s.queueReply r).resetHeld = s.resetHeld := rfl
@[simp] theorem State.queueReply_powerOns (r : Reply) : (s.queueReply r).powerOns = s.powerOns := rfl
@[simp] theorem State.queueReply_choices (r : Reply) : (s.queueReply r).choices = s.choices := rfl
@[simp] theorem State.queueReply_pending (r : Reply) : (s.queueReply r).pending = s.pending := rfl

/-! ### State.flushFrame -/

@[simp] theorem State.flushFrame_lrx (t : Byte) : (s.flushFrame t).lrx = s.lrx := rfl
@[simp] theorem State.flushFrame_lsq (t : Byte) : (s.flushFrame t).lsq = s.lsq := rfl
@[simp] theorem State.flushFrame_cfs (t : Byte) : (s.flushFrame t).cfs = s.cfs := rfl
@[simp] theorem State.flushFrame_otg (t : Byte) : (s.flushFrame t).otg = s.otg := rfl
@[simp] theorem State.flushFrame_ovc (t : Byte) : (s.flushFrame t).ovc = s.ovc := rfl
@[simp] theorem State.flushFrame_mge (t : Byte) : (s.flushFrame t).mge = s.mge := rfl
@[simp] theorem State.flushFrame_rlt (t : Byte) : (s.flushFrame t).rlt = s.rlt := rfl
@[simp] theorem State.flushFrame_ctb (t : Byte) : (s.flushFrame t).ctb = s.ctb := rfl
@[simp] theorem State.flushFrame_resetHeld (t : Byte) : (s.flushFrame t).resetHeld = s.resetHeld := rfl
@[simp] theorem State.flushFrame_powerOns (t : Byte) : (s.flushFrame t).powerOns = s.powerOns := rfl
@[simp] theorem State.flushFrame_choices (t : Byte) : (s.flushFrame t).choices = s.choices := rfl
@[simp] theorem State.flushFrame_pending (t : Byte) : (s.flushFrame t).pending = s.pending := rfl

/-! ### State.bindFrame -/

@[simp] theorem State.bindFrame_lrx (t : Byte) : (s.bindFrame t).lrx = s.lrx := rfl
@[simp] theorem State.bindFrame_store (t : Byte) : (s.bindFrame t).store = s.store := rfl
@[simp] theorem State.bindFrame_cfs (t : Byte) : (s.bindFrame t).cfs = s.cfs := rfl
@[simp] theorem State.bindFrame_otg (t : Byte) : (s.bindFrame t).otg = s.otg := rfl
@[simp] theorem State.bindFrame_ovc (t : Byte) : (s.bindFrame t).ovc = s.ovc := rfl
@[simp] theorem State.bindFrame_mge (t : Byte) : (s.bindFrame t).mge = s.mge := rfl
@[simp] theorem State.bindFrame_rlt (t : Byte) : (s.bindFrame t).rlt = s.rlt := rfl
@[simp] theorem State.bindFrame_ctb (t : Byte) : (s.bindFrame t).ctb = s.ctb := rfl
@[simp] theorem State.bindFrame_resetHeld (t : Byte) : (s.bindFrame t).resetHeld = s.resetHeld := rfl
@[simp] theorem State.bindFrame_powerOns (t : Byte) : (s.bindFrame t).powerOns = s.powerOns := rfl
@[simp] theorem State.bindFrame_choices (t : Byte) : (s.bindFrame t).choices = s.choices := rfl
@[simp] theorem State.bindFrame_pending (t : Byte) : (s.bindFrame t).pending = s.pending := rfl

/-! ### State.closeSession -/

@[simp] theorem State.closeSession_lrx : (s.closeSession).lrx = s.lrx := rfl
@[simp] theorem State.closeSession_frames : (s.closeSession).frames = s.frames := rfl
@[simp] theorem State.closeSession_store : (s.closeSession).store = s.store := rfl
@[simp] theorem State.closeSession_lsq : (s.closeSession).lsq = s.lsq := rfl
@[simp] theorem State.closeSession_otg : (s.closeSession).otg = s.otg := rfl
@[simp] theorem State.closeSession_ovc : (s.closeSession).ovc = s.ovc := rfl
@[simp] theorem State.closeSession_rlt : (s.closeSession).rlt = s.rlt := rfl
@[simp] theorem State.closeSession_ctb : (s.closeSession).ctb = s.ctb := rfl
@[simp] theorem State.closeSession_resetHeld : (s.closeSession).resetHeld = s.resetHeld := rfl
@[simp] theorem State.closeSession_powerOns : (s.closeSession).powerOns = s.powerOns := rfl
@[simp] theorem State.closeSession_choices : (s.closeSession).choices = s.choices := rfl
@[simp] theorem State.closeSession_pending : (s.closeSession).pending = s.pending := rfl

/-! ### State.beginFrame -/

@[simp] theorem State.beginFrame_lrx : (s.beginFrame).lrx = s.lrx := rfl
@[simp] theorem State.beginFrame_frames : (s.beginFrame).frames = s.frames := rfl
@[simp] theorem State.beginFrame_store : (s.beginFrame).store = s.store := rfl
@[simp] theorem State.beginFrame_cfs : (s.beginFrame).cfs = s.cfs := rfl
@[simp] theorem State.beginFrame_ovc : (s.beginFrame).ovc = s.ovc := rfl
@[simp] theorem State.beginFrame_mge : (s.beginFrame).mge = s.mge := rfl
@[simp] theorem State.beginFrame_rlt : (s.beginFrame).rlt = s.rlt := rfl
@[simp] theorem State.beginFrame_ctb : (s.beginFrame).ctb = s.ctb := rfl
@[simp] theorem State.beginFrame_resetHeld : (s.beginFrame).resetHeld = s.resetHeld := rfl
@[simp] theorem State.beginFrame_powerOns : (s.beginFrame).powerOns = s.powerOns := rfl
@[simp] theorem State.beginFrame_choices : (s.beginFrame).choices = s.choices := rfl
@[simp] theorem State.beginFrame_pending : (s.beginFrame).pending = s.pending := rfl

/-! ### State.enterWaitFrame -/

@[simp] theorem State.enterWaitFrame_lrx : (s.enterWaitFrame).lrx = s.lrx := rfl
@[simp] theorem State.enterWaitFrame_frames : (s.enterWaitFrame).frames = s.frames := rfl
@[simp] theorem State.enterWaitFrame_store : (s.enterWaitFrame).store = s.store := rfl
@[simp] theorem State.enterWaitFrame_lsq : (s.enterWaitFrame).lsq = s.lsq := rfl
@[simp] theorem State.enterWaitFrame_cfs : (s.enterWaitFrame).cfs = s.cfs := rfl
@[simp] theorem State.enterWaitFrame_mge : (s.enterWaitFrame).mge = s.mge := rfl
@[simp] theorem State.enterWaitFrame_rlt : (s.enterWaitFrame).rlt = s.rlt := rfl
@[simp] theorem State.enterWaitFrame_ctb : (s.enterWaitFrame).ctb = s.ctb := rfl
@[simp] theorem State.enterWaitFrame_resetHeld : (s.enterWaitFrame).resetHeld = s.resetHeld := rfl
@[simp] theorem State.enterWaitFrame_powerOns : (s.enterWaitFrame).powerOns = s.powerOns := rfl
@[simp] theorem State.enterWaitFrame_choices : (s.enterWaitFrame).choices = s.choices := rfl
@[simp] theorem State.enterWaitFrame_pending : (s.enterWaitFrame).pending = s.pending := rfl

/-! ### State.enterHeld -/

@[simp] theorem State.enterHeld_lrx (k : HoldKind) (p : HoldPosition) : (s.enterHeld k p).lrx = s.lrx := rfl
@[simp] theorem State.enterHeld_frames (k : HoldKind) (p : HoldPosition) : (s.enterHeld k p).frames = s.frames := rfl
@[simp] theorem State.enterHeld_store (k : HoldKind) (p : HoldPosition) : (s.enterHeld k p).store = s.store := rfl
@[simp] theorem State.enterHeld_lsq (k : HoldKind) (p : HoldPosition) : (s.enterHeld k p).lsq = s.lsq := rfl
@[simp] theorem State.enterHeld_cfs (k : HoldKind) (p : HoldPosition) : (s.enterHeld k p).cfs = s.cfs := rfl
@[simp] theorem State.enterHeld_mge (k : HoldKind) (p : HoldPosition) : (s.enterHeld k p).mge = s.mge := rfl
@[simp] theorem State.enterHeld_ctb (k : HoldKind) (p : HoldPosition) : (s.enterHeld k p).ctb = s.ctb := rfl
@[simp] theorem State.enterHeld_resetHeld (k : HoldKind) (p : HoldPosition) : (s.enterHeld k p).resetHeld = s.resetHeld := rfl
@[simp] theorem State.enterHeld_powerOns (k : HoldKind) (p : HoldPosition) : (s.enterHeld k p).powerOns = s.powerOns := rfl
@[simp] theorem State.enterHeld_choices (k : HoldKind) (p : HoldPosition) : (s.enterHeld k p).choices = s.choices := rfl
@[simp] theorem State.enterHeld_pending (k : HoldKind) (p : HoldPosition) : (s.enterHeld k p).pending = s.pending := rfl

/-! ### State.consume -/

@[simp] theorem State.consume_lrx (t : Byte) : (s.consume t).lrx = s.lrx := rfl
@[simp] theorem State.consume_lsq (t : Byte) : (s.consume t).lsq = s.lsq := rfl
@[simp] theorem State.consume_cfs (t : Byte) : (s.consume t).cfs = s.cfs := rfl
@[simp] theorem State.consume_otg (t : Byte) : (s.consume t).otg = s.otg := rfl
@[simp] theorem State.consume_ovc (t : Byte) : (s.consume t).ovc = s.ovc := rfl
@[simp] theorem State.consume_mge (t : Byte) : (s.consume t).mge = s.mge := rfl
@[simp] theorem State.consume_rlt (t : Byte) : (s.consume t).rlt = s.rlt := rfl
@[simp] theorem State.consume_ctb (t : Byte) : (s.consume t).ctb = s.ctb := rfl
@[simp] theorem State.consume_resetHeld (t : Byte) : (s.consume t).resetHeld = s.resetHeld := rfl
@[simp] theorem State.consume_powerOns (t : Byte) : (s.consume t).powerOns = s.powerOns := rfl
@[simp] theorem State.consume_choices (t : Byte) : (s.consume t).choices = s.choices := rfl
@[simp] theorem State.consume_pending (t : Byte) : (s.consume t).pending = s.pending := rfl

/-! ### State.advanceExpected -/

@[simp] theorem State.advanceExpected_lrx : (s.advanceExpected).lrx = s.lrx := rfl
@[simp] theorem State.advanceExpected_frames : (s.advanceExpected).frames = s.frames := rfl
@[simp] theorem State.advanceExpected_store : (s.advanceExpected).store = s.store := rfl
@[simp] theorem State.advanceExpected_cfs : (s.advanceExpected).cfs = s.cfs := rfl
@[simp] theorem State.advanceExpected_otg : (s.advanceExpected).otg = s.otg := rfl
@[simp] theorem State.advanceExpected_ovc : (s.advanceExpected).ovc = s.ovc := rfl
@[simp] theorem State.advanceExpected_mge : (s.advanceExpected).mge = s.mge := rfl
@[simp] theorem State.advanceExpected_rlt : (s.advanceExpected).rlt = s.rlt := rfl
@[simp] theorem State.advanceExpected_ctb : (s.advanceExpected).ctb = s.ctb := rfl
@[simp] theorem State.advanceExpected_resetHeld : (s.advanceExpected).resetHeld = s.resetHeld := rfl
@[simp] theorem State.advanceExpected_powerOns : (s.advanceExpected).powerOns = s.powerOns := rfl
@[simp] theorem State.advanceExpected_choices : (s.advanceExpected).choices = s.choices := rfl
@[simp] theorem State.advanceExpected_pending : (s.advanceExpected).pending = s.pending := rfl

/-! ### State.setCadence -/

@[simp] theorem State.setCadence_lrx (e : Entry) : (s.setCadence e).lrx = s.lrx := rfl
@[simp] theorem State.setCadence_frames (e : Entry) : (s.setCadence e).frames = s.frames := rfl
@[simp] theorem State.setCadence_store (e : Entry) : (s.setCadence e).store = s.store := rfl
@[simp] theorem State.setCadence_cfs (e : Entry) : (s.setCadence e).cfs = s.cfs := rfl
@[simp] theorem State.setCadence_otg (e : Entry) : (s.setCadence e).otg = s.otg := rfl
@[simp] theorem State.setCadence_ovc (e : Entry) : (s.setCadence e).ovc = s.ovc := rfl
@[simp] theorem State.setCadence_mge (e : Entry) : (s.setCadence e).mge = s.mge := rfl
@[simp] theorem State.setCadence_rlt (e : Entry) : (s.setCadence e).rlt = s.rlt := rfl
@[simp] theorem State.setCadence_ctb (e : Entry) : (s.setCadence e).ctb = s.ctb := rfl
@[simp] theorem State.setCadence_resetHeld (e : Entry) : (s.setCadence e).resetHeld = s.resetHeld := rfl
@[simp] theorem State.setCadence_powerOns (e : Entry) : (s.setCadence e).powerOns = s.powerOns := rfl
@[simp] theorem State.setCadence_choices (e : Entry) : (s.setCadence e).choices = s.choices := rfl
@[simp] theorem State.setCadence_pending (e : Entry) : (s.setCadence e).pending = s.pending := rfl

/-! ### State.startLine -/

@[simp] theorem State.startLine_lrx (l : Line) : (s.startLine l).lrx = s.lrx := rfl
@[simp] theorem State.startLine_frames (l : Line) : (s.startLine l).frames = s.frames := rfl
@[simp] theorem State.startLine_store (l : Line) : (s.startLine l).store = s.store := rfl
@[simp] theorem State.startLine_lsq (l : Line) : (s.startLine l).lsq = s.lsq := rfl
@[simp] theorem State.startLine_cfs (l : Line) : (s.startLine l).cfs = s.cfs := rfl
@[simp] theorem State.startLine_ovc (l : Line) : (s.startLine l).ovc = s.ovc := rfl
@[simp] theorem State.startLine_mge (l : Line) : (s.startLine l).mge = s.mge := rfl
@[simp] theorem State.startLine_rlt (l : Line) : (s.startLine l).rlt = s.rlt := rfl
@[simp] theorem State.startLine_ctb (l : Line) : (s.startLine l).ctb = s.ctb := rfl
@[simp] theorem State.startLine_resetHeld (l : Line) : (s.startLine l).resetHeld = s.resetHeld := rfl
@[simp] theorem State.startLine_powerOns (l : Line) : (s.startLine l).powerOns = s.powerOns := rfl
@[simp] theorem State.startLine_choices (l : Line) : (s.startLine l).choices = s.choices := rfl
@[simp] theorem State.startLine_pending (l : Line) : (s.startLine l).pending = s.pending := rfl

/-! ### State.countWaitLine -/

@[simp] theorem State.countWaitLine_lrx : (s.countWaitLine).lrx = s.lrx := rfl
@[simp] theorem State.countWaitLine_frames : (s.countWaitLine).frames = s.frames := rfl
@[simp] theorem State.countWaitLine_store : (s.countWaitLine).store = s.store := rfl
@[simp] theorem State.countWaitLine_lsq : (s.countWaitLine).lsq = s.lsq := rfl
@[simp] theorem State.countWaitLine_cfs : (s.countWaitLine).cfs = s.cfs := rfl
@[simp] theorem State.countWaitLine_ovc : (s.countWaitLine).ovc = s.ovc := rfl
@[simp] theorem State.countWaitLine_mge : (s.countWaitLine).mge = s.mge := rfl
@[simp] theorem State.countWaitLine_rlt : (s.countWaitLine).rlt = s.rlt := rfl
@[simp] theorem State.countWaitLine_ctb : (s.countWaitLine).ctb = s.ctb := rfl
@[simp] theorem State.countWaitLine_resetHeld : (s.countWaitLine).resetHeld = s.resetHeld := rfl
@[simp] theorem State.countWaitLine_powerOns : (s.countWaitLine).powerOns = s.powerOns := rfl
@[simp] theorem State.countWaitLine_choices : (s.countWaitLine).choices = s.choices := rfl
@[simp] theorem State.countWaitLine_pending : (s.countWaitLine).pending = s.pending := rfl

/-! ### State.requestStop -/

@[simp] theorem State.requestStop_lrx : (s.requestStop).lrx = s.lrx := rfl
@[simp] theorem State.requestStop_frames : (s.requestStop).frames = s.frames := rfl
@[simp] theorem State.requestStop_store : (s.requestStop).store = s.store := rfl
@[simp] theorem State.requestStop_lsq : (s.requestStop).lsq = s.lsq := rfl
@[simp] theorem State.requestStop_cfs : (s.requestStop).cfs = s.cfs := rfl
@[simp] theorem State.requestStop_ovc : (s.requestStop).ovc = s.ovc := rfl
@[simp] theorem State.requestStop_mge : (s.requestStop).mge = s.mge := rfl
@[simp] theorem State.requestStop_rlt : (s.requestStop).rlt = s.rlt := rfl
@[simp] theorem State.requestStop_ctb : (s.requestStop).ctb = s.ctb := rfl
@[simp] theorem State.requestStop_resetHeld : (s.requestStop).resetHeld = s.resetHeld := rfl
@[simp] theorem State.requestStop_powerOns : (s.requestStop).powerOns = s.powerOns := rfl
@[simp] theorem State.requestStop_choices : (s.requestStop).choices = s.choices := rfl
@[simp] theorem State.requestStop_pending : (s.requestStop).pending = s.pending := rfl

/-! ### State.discardWaitCount -/

@[simp] theorem State.discardWaitCount_lrx : (s.discardWaitCount).lrx = s.lrx := rfl
@[simp] theorem State.discardWaitCount_frames : (s.discardWaitCount).frames = s.frames := rfl
@[simp] theorem State.discardWaitCount_store : (s.discardWaitCount).store = s.store := rfl
@[simp] theorem State.discardWaitCount_lsq : (s.discardWaitCount).lsq = s.lsq := rfl
@[simp] theorem State.discardWaitCount_cfs : (s.discardWaitCount).cfs = s.cfs := rfl
@[simp] theorem State.discardWaitCount_ovc : (s.discardWaitCount).ovc = s.ovc := rfl
@[simp] theorem State.discardWaitCount_mge : (s.discardWaitCount).mge = s.mge := rfl
@[simp] theorem State.discardWaitCount_rlt : (s.discardWaitCount).rlt = s.rlt := rfl
@[simp] theorem State.discardWaitCount_ctb : (s.discardWaitCount).ctb = s.ctb := rfl
@[simp] theorem State.discardWaitCount_resetHeld : (s.discardWaitCount).resetHeld = s.resetHeld := rfl
@[simp] theorem State.discardWaitCount_powerOns : (s.discardWaitCount).powerOns = s.powerOns := rfl
@[simp] theorem State.discardWaitCount_choices : (s.discardWaitCount).choices = s.choices := rfl
@[simp] theorem State.discardWaitCount_pending : (s.discardWaitCount).pending = s.pending := rfl

/-! ### State.resumeFrame -/

@[simp] theorem State.resumeFrame_lrx (n : Nat) : (s.resumeFrame n).lrx = s.lrx := rfl
@[simp] theorem State.resumeFrame_frames (n : Nat) : (s.resumeFrame n).frames = s.frames := rfl
@[simp] theorem State.resumeFrame_store (n : Nat) : (s.resumeFrame n).store = s.store := rfl
@[simp] theorem State.resumeFrame_lsq (n : Nat) : (s.resumeFrame n).lsq = s.lsq := rfl
@[simp] theorem State.resumeFrame_cfs (n : Nat) : (s.resumeFrame n).cfs = s.cfs := rfl
@[simp] theorem State.resumeFrame_ovc (n : Nat) : (s.resumeFrame n).ovc = s.ovc := rfl
@[simp] theorem State.resumeFrame_mge (n : Nat) : (s.resumeFrame n).mge = s.mge := rfl
@[simp] theorem State.resumeFrame_rlt (n : Nat) : (s.resumeFrame n).rlt = s.rlt := rfl
@[simp] theorem State.resumeFrame_ctb (n : Nat) : (s.resumeFrame n).ctb = s.ctb := rfl
@[simp] theorem State.resumeFrame_resetHeld (n : Nat) : (s.resumeFrame n).resetHeld = s.resetHeld := rfl
@[simp] theorem State.resumeFrame_powerOns (n : Nat) : (s.resumeFrame n).powerOns = s.powerOns := rfl
@[simp] theorem State.resumeFrame_choices (n : Nat) : (s.resumeFrame n).choices = s.choices := rfl
@[simp] theorem State.resumeFrame_pending (n : Nat) : (s.resumeFrame n).pending = s.pending := rfl

/-! ### State.openSession -/

@[simp] theorem State.openSession_lrx (e l : Word16) : (s.openSession e l).lrx = s.lrx := rfl
@[simp] theorem State.openSession_frames (e l : Word16) : (s.openSession e l).frames = s.frames := rfl
@[simp] theorem State.openSession_store (e l : Word16) : (s.openSession e l).store = s.store := rfl
@[simp] theorem State.openSession_lsq (e l : Word16) : (s.openSession e l).lsq = s.lsq := rfl
@[simp] theorem State.openSession_cfs (e l : Word16) : (s.openSession e l).cfs = s.cfs := rfl
@[simp] theorem State.openSession_otg (e l : Word16) : (s.openSession e l).otg = s.otg := rfl
@[simp] theorem State.openSession_ovc (e l : Word16) : (s.openSession e l).ovc = s.ovc := rfl
@[simp] theorem State.openSession_rlt (e l : Word16) : (s.openSession e l).rlt = s.rlt := rfl
@[simp] theorem State.openSession_ctb (e l : Word16) : (s.openSession e l).ctb = s.ctb := rfl
@[simp] theorem State.openSession_resetHeld (e l : Word16) : (s.openSession e l).resetHeld = s.resetHeld := rfl
@[simp] theorem State.openSession_powerOns (e l : Word16) : (s.openSession e l).powerOns = s.powerOns := rfl
@[simp] theorem State.openSession_choices (e l : Word16) : (s.openSession e l).choices = s.choices := rfl
@[simp] theorem State.openSession_pending (e l : Word16) : (s.openSession e l).pending = s.pending := rfl

/-! ### The touched fields -/

@[simp] theorem State.count_ctb (c : Counter) : (s.count c).ctb = s.ctb.count c := rfl
@[simp] theorem State.countTimes_ctb (c : Counter) (n : Nat) : (s.countTimes c n).ctb = s.ctb.countTimes c n := rfl
@[simp] theorem State.raise_rlt (k : NoticeKind) (d : Word16) :
    (s.raise k d).rlt = s.rlt.raise k d s.otg.frameNumber := rfl
@[simp] theorem State.settle_rlt : s.settle.rlt = s.rlt.settle s.choices := rfl
@[simp] theorem State.queueReply_rlt (r : Reply) :
    (s.queueReply r).rlt = { s.rlt with replies := s.rlt.replies ++ [r] } := rfl
@[simp] theorem State.flushFrame_store (t : Byte) :
    (s.flushFrame t).store = s.store.filter (fun l => !(l.tag == t)) := rfl
@[simp] theorem State.flushFrame_frames (t : Byte) :
    (s.flushFrame t).frames = s.frames.filter (fun r => !(r.tag == t)) := rfl
@[simp] theorem State.bindFrame_frames (t : Byte) :
    (s.bindFrame t).frames = updateFrame t (fun r => { r with bound := true }) s.frames := rfl
@[simp] theorem State.bindFrame_lsq (t : Byte) :
    (s.bindFrame t).lsq = { s.lsq with bound := some t, coastingNoticed := false } := rfl
@[simp] theorem State.closeSession_mge : s.closeSession.mge = { s.mge with session := none, cache := [] } := rfl
@[simp] theorem State.closeSession_cfs : s.closeSession.cfs = s.cfs.atSessionClose := rfl
@[simp] theorem State.enterWaitFrame_ovc : s.enterWaitFrame.ovc = s.ovc.applyPalette := rfl
@[simp] theorem State.enterHeld_ovc (k : HoldKind) (p : HoldPosition) : (s.enterHeld k p).ovc = s.ovc.applyPalette := rfl
@[simp] theorem State.consume_store (t : Byte) : (s.consume t).store = s.store.eraseP (·.tag == t) := rfl
@[simp] theorem State.consume_frames (t : Byte) :
    (s.consume t).frames = updateFrame t (fun r => { r with stored := r.stored - 1 }) s.frames := rfl
@[simp] theorem State.advanceExpected_lsq :
    s.advanceExpected.lsq = { s.lsq with expected := s.lsq.expected + 1 } := rfl
@[simp] theorem State.startLine_otg (l : Line) : (s.startLine l).otg = { s.otg with phase := .inLine l } := rfl
@[simp] theorem Ovc.applyPalette_glyphs (o : Ovc) : o.applyPalette.glyphs = o.glyphs := rfl
@[simp] theorem Ovc.applyPalette_pending (o : Ovc) : o.applyPalette.palettePending = [] := rfl
@[simp] theorem Cfs.restage_active (c : Cfs) : c.restage.active = c.active := rfl
@[simp] theorem Cfs.restage_pending (c : Cfs) : c.restage.commitPending = c.commitPending := rfl
@[simp] theorem Cfs.applyCommit_active (c : Cfs) : c.applyCommit.active = some c.staging := rfl
@[simp] theorem Cfs.applyCommit_staging (c : Cfs) : c.applyCommit.staging = c.staging := rfl
@[simp] theorem Cfs.applyCommit_pending (c : Cfs) : c.applyCommit.commitPending = none := rfl

/-- A session close changes neither the active bank nor the commit-pending record (R141). -/
@[simp] theorem Cfs.atSessionClose_active (c : Cfs) : c.atSessionClose.active = c.active := by
  unfold Cfs.atSessionClose; split <;> rfl

@[simp] theorem Cfs.atSessionClose_pending (c : Cfs) : c.atSessionClose.commitPending = c.commitPending := by
  unfold Cfs.atSessionClose; split <;> rfl

end Sys2Proof.Machine
end

