-- ==== Sys2Proof/Laws/Lane.lean ====
section
/-! SUPPORT. What the return lane's operations can do: raising, queueing, sending, settling (R160 to R163). -/

namespace Sys2Proof.Machine

/-- Raising a notice touches only the notice queue and the lost-notice count (R161, R162). -/
@[simp] theorem Rlt.raise_frame (r : Rlt) (k : NoticeKind) (d : Word16) (f : Word32) :
    (r.raise k d f).replies = r.replies ∧ (r.raise k d f).consecutive = r.consecutive
      ∧ (r.raise k d f).mask = r.mask ∧ (r.raise k d f).lane = r.lane := by
  unfold Rlt.raise Rlt.offer
  split
  · simp
  · split <;> simp

/-- Raising is one of: nothing (masked), a join, a lost notice. -/
theorem Rlt.raise_cases (r : Rlt) (k : NoticeKind) (d : Word16) (f : Word32) :
    (masked r.mask k = true ∧ r.raise k d f = r)
      ∨ (masked r.mask k = false ∧ r.notices.length < 8
          ∧ r.raise k d f = { r with notices := r.notices ++ [{ kind := k, detail := d, frame := f }] })
      ∨ (masked r.mask k = false ∧ 8 ≤ r.notices.length ∧ r.raise k d f = { r with lost := satInc r.lost }) := by
  unfold Rlt.raise Rlt.offer Config.noticeQueueSize
  cases masked r.mask k
  · by_cases h : r.notices.length < 8
    · exact Or.inr (Or.inl ⟨rfl, h, by simp [h]⟩)
    · exact Or.inr (Or.inr ⟨rfl, by omega, by simp [h]⟩)
  · exact Or.inl ⟨rfl, rfl⟩

@[simp] theorem Rlt.sendReply_cons (r : Rlt) (x : Reply) (rest : List Reply) (h : r.replies = x :: rest) :
    r.sendReply = { r with replies := rest, consecutive := min (r.consecutive + 1) 4, lane := .busy (.reply x) 0 } := by
  unfold Rlt.sendReply; rw [h]

@[simp] theorem Rlt.sendNotice_cons (r : Rlt) (n : Notice) (rest : List Notice) (h : r.notices = n :: rest) :
    r.sendNotice = { r with notices := rest, lost := 0, consecutive := 0, lane := .busy (.notice n r.lost) 0 } := by
  unfold Rlt.sendNotice; rw [h]

/-- What the arbiter can do: nothing, when both queues are empty; send the oldest reply; send the oldest notice. -/
theorem Rlt.arbitrate_cases (r : Rlt) :
    (r.notices = [] ∧ r.replies = [] ∧ r.arbitrate = r)
      ∨ (∃ x rest, r.replies = x :: rest ∧ r.arbitrate = r.sendReply)
      ∨ (∃ n rest, r.notices = n :: rest ∧ r.arbitrate = r.sendNotice) := by
  unfold Rlt.arbitrate
  cases hn : r.notices with
  | nil =>
    cases hr : r.replies with
    | nil => exact Or.inl ⟨rfl, rfl, rfl⟩
    | cons x rest => exact Or.inr (Or.inl ⟨x, rest, rfl, rfl⟩)
  | cons n rest =>
    cases hr : r.replies with
    | nil => exact Or.inr (Or.inr ⟨n, rest, rfl, rfl⟩)
    | cons x xs =>
      by_cases h : r.consecutive = 4 ∨ r.resetDoneWaits = true
      · exact Or.inr (Or.inr ⟨n, rest, rfl, by simp [h]⟩)
      · exact Or.inr (Or.inl ⟨x, xs, rfl, by simp [h]⟩)

/-- A waiting RESET_DONE goes before every reply (R164; log entry 24). -/
theorem Rlt.arbitrate_resetDone (r : Rlt) (n : Notice) (rest : List Notice) (h : r.notices = n :: rest)
    (hn : n.kind = .resetDone) : r.arbitrate = r.sendNotice := by
  unfold Rlt.arbitrate
  cases hr : r.replies <;> simp [h, Rlt.resetDoneWaits, hn]

/-- What settling can do: nothing, on a busy lane or with both queues empty; send the oldest reply; send the oldest
notice. -/
theorem Rlt.settle_cases (r : Rlt) (n : Nat) :
    ((r.lane.isBusy = true ∨ r.notices = [] ∧ r.replies = []) ∧ r.settle n = r)
      ∨ (r.lane = .idle ∧ ∃ x rest, r.replies = x :: rest ∧ r.settle n = r.sendReply)
      ∨ (r.lane = .idle ∧ ∃ m rest, r.notices = m :: rest ∧ r.settle n = r.sendNotice) := by
  unfold Rlt.settle
  cases hl : r.lane with
  | busy m k => exact Or.inl ⟨Or.inl rfl, by simp [Lane.isBusy]⟩
  | idle =>
    by_cases hj : r.joinTogether = true
    · have hj' := hj
      simp only [Rlt.joinTogether, hl, Lane.isBusy, Bool.not_false, Bool.true_and, Bool.and_eq_true,
        Bool.not_eq_true', List.isEmpty_eq_false_iff] at hj'
      obtain ⟨m, ms, hm⟩ := List.exists_cons_of_ne_nil hj'.1.1
      obtain ⟨x, xs, hx⟩ := List.exists_cons_of_ne_nil hj'.1.2
      cases hf : Config.replyFirst n
      · exact Or.inr (Or.inr ⟨rfl, m, ms, hm, by simp [Lane.isBusy, hj]⟩)
      · exact Or.inr (Or.inl ⟨rfl, x, xs, hx, by simp [Lane.isBusy, hj]⟩)
    · have h := r.arbitrate_cases
      simp only [Lane.isBusy, hj, if_false, Bool.false_eq_true]
      rcases h with ⟨h1, h2, h3⟩ | ⟨x, rest, h1, h2⟩ | ⟨m, rest, h1, h2⟩
      · exact Or.inl ⟨Or.inr ⟨h1, h2⟩, h3⟩
      · exact Or.inr (Or.inl ⟨trivial, x, rest, h1, h2⟩)
      · exact Or.inr (Or.inr ⟨trivial, m, rest, h1, h2⟩)

/-- A busy lane is not touched when a step ends (R163: a message is sent to its end). -/
@[simp] theorem Rlt.settle_busy (r : Rlt) (n : Nat) (h : r.lane.isBusy = true) : r.settle n = r := by
  unfold Rlt.settle; simp [h]

/-- Ending a step on a busy lane changes nothing (R163). -/
theorem State.settle_busy (s : State) (h : s.rlt.lane.isBusy = true) : s.settle = s := by
  simp [State.settle, Rlt.joinTogether, h]

/-- Ending a step on an idle lane where a reply and a notice other than RESET_DONE joined: the free choice (R163; log
entry 8). -/
theorem State.settle_both (s : State) {n : Notice} {ns : List Notice} {r : Reply} {rs : List Reply}
    (hl : s.rlt.lane = .idle) (hn : s.rlt.notices = n :: ns) (hr : s.rlt.replies = r :: rs) (hk : n.kind ≠ .resetDone) :
    s.settle = { s with
      choices := s.choices + 1
      rlt := if Config.replyFirst s.choices then s.rlt.sendReply else s.rlt.sendNotice } := by
  have hj : s.rlt.joinTogether = true := by
    simp [Rlt.joinTogether, Rlt.resetDoneWaits, Lane.isBusy, hl, hn, hr, hk]
  simp [State.settle, Rlt.settle, Lane.isBusy, hl, hj]

/-- Ending a step on an idle lane with no free choice: the arbiter's table (R163, R164). -/
theorem State.settle_one (s : State) (hl : s.rlt.lane = .idle)
    (h : s.rlt.notices = [] ∨ s.rlt.replies = [] ∨ s.rlt.resetDoneWaits = true) :
    s.settle = { s with rlt := s.rlt.arbitrate } := by
  have hj : s.rlt.joinTogether = false := by
    rcases h with h | h | h <;> simp [Rlt.joinTogether, h]
  simp [State.settle, Rlt.settle, Lane.isBusy, hl, hj]

/-- Settling never touches the notice mask. -/
@[simp] theorem Rlt.settle_mask (r : Rlt) (n : Nat) : (r.settle n).mask = r.mask := by
  rcases r.settle_cases n with ⟨-, h⟩ | ⟨-, x, rest, hx, h⟩ | ⟨-, m, rest, hm, h⟩
  · rw [h]
  · rw [h, Rlt.sendReply_cons r x rest hx]
  · rw [h, Rlt.sendNotice_cons r m rest hm]

/-! ### The passing of time (R159; log entry 4) -/

/-- A byte time with the lane idle and both timers stopped changes nothing. -/
theorem tick_of_idle (s : State) (hl : s.rlt.lane = .idle) (hs : s.lrx.silence = none) (hm : s.mge.session = none) :
    tick s = s := by
  simp [tick, tickLane, tickSilence, tickIdle, hl, hs, hm]

/-- A byte time before the last byte of a message, with both timers stopped, sends that byte and does nothing else. -/
theorem tick_of_busy (s : State) (m : Message) (sent : Nat) (hr : s.resetHeld = false) (hl : s.rlt.lane = .busy m sent)
    (hs : s.lrx.silence = none) (hm : s.mge.session = none) (h : sent + 1 < m.length) :
    tick s = { s with rlt.lane := .busy m (sent + 1) } := by
  simp [tick, tickLane, tickSilence, tickIdle, hr, hl, hs, hm, h]

end Sys2Proof.Machine
end

