-- ==== Sys2Proof/Laws/Take.lean ====
section
/-! SUPPORT. What an event and a take can do (R145, R146, R158; log entry 2). -/

namespace Sys2Proof.Machine

variable {s : State}

/-- A due event outside reset acts, and the step ends with the arbiter. -/
theorem event_acts {due : State → Bool} {f : State → State} (hr : s.resetHeld = false) (hd : due s = true) :
    event due f s = (f s).settle := by
  unfold event; simp [hr, hd]

/-- While RESET_N is low no event acts. -/
theorem event_held {due : State → Bool} {f : State → State} (hr : s.resetHeld = true) : event due f s = s := by
  unfold event; simp [hr]

/-- An event that is not due does nothing. -/
theorem event_not_due {due : State → Bool} {f : State → State} (hd : due s = false) : event due f s = s := by
  unfold event; simp [hd]

/-- What an event can do. -/
theorem event_cases (due : State → Bool) (f : State → State) (s : State) :
    event due f s = s ∨ (s.resetHeld = false ∧ due s = true ∧ event due f s = (f s).settle) := by
  unfold event
  cases hr : s.resetHeld <;> cases hd : due s <;> simp

/-- A property that the action and the arbiter keep is kept by the event. -/
theorem event_keeps {P : State → Prop} {due : State → Bool} {f : State → State} (h : P s)
    (hf : s.resetHeld = false → due s = true → P (f s)) (hs : ∀ t, P t → P t.settle) : P (event due f s) := by
  rcases event_cases due f s with he | ⟨hr, hd, he⟩
  · rw [he]; exact h
  · rw [he]; exact hs _ (hf hr hd)

/-- Whether the conditions of a take hold when the command stands at the head. -/
theorem mayTake_of_atHead {c : Command} {code : Byte} {accepts : Byte → Bool} (h : AtHead s c code)
    (ha : accepts code = true) : s.mayTake accepts = true := by
  have h1 := h.slot
  have h2 := h.head
  have h3 := h.noReset
  have h4 := h.code
  simp [State.mayTake, Config.replyQueueSize, h1, h2, h3, h4, ha]

/-- The take removes the head and processes it. -/
theorem takeHead_of_head {c : Command} {free : Bool} {body : CommandBody} (h : s.mge.commands.head? = some c) :
    s.takeHead free body = (popped s).process c free body := by
  unfold State.takeHead popped
  cases hq : s.mge.commands with
  | nil => simp [hq] at h
  | cons x rest =>
    simp only [hq, List.head?_cons, Option.some.injEq] at h
    subst h
    rfl

/-- The take of a command at the head. -/
theorem take_of_atHead {c : Command} {code : Byte} {accepts : Byte → Bool} {free : Bool} {body : CommandBody}
    (h : AtHead s c code) (ha : accepts code = true) :
    take accepts free body s = ((popped s).process c free body).settle := by
  unfold take
  rw [event_acts h.running (mayTake_of_atHead h ha), takeHead_of_head h.head]

@[simp] theorem popped_inEpoch (c : Command) : (popped s).inEpoch c = s.inEpoch c := rfl
@[simp] theorem popped_cached (t : Byte) : (popped s).cached? t = s.cached? t := rfl

/-- The take of a command in session with a fresh tag: its own rule, then the reply and the cache (R146). -/
theorem take_inSession {c : Command} {code : Byte} {accepts : Byte → Bool} {free : Bool} {body : CommandBody}
    (h : AtHead s c code) (hi : InSession s c) (ha : accepts code = true) :
    take accepts free body s
      = ((body c (popped s)).1.answer c (body c (popped s)).2).settle := by
  rw [take_of_atHead h ha]
  simp [State.process, hi.epoch, hi.fresh, State.carryOut]

/-- The take of PING, READ_STATUS or OPEN_SESSION that reaches its execution, in epoch or not (R146). -/
theorem take_free {c : Command} {code : Byte} {accepts : Byte → Bool} {body : CommandBody}
    (h : AtHead s c code) (hi : reaches s c) (ha : accepts code = true) :
    take accepts true body s = ((body c (popped s)).1.answer c (body c (popped s)).2).settle := by
  rw [take_of_atHead h ha]
  rcases hi with hi | hi
  · simp [State.process, hi, State.carryOut]
  · cases he : s.inEpoch c <;> simp [State.process, he, hi, State.carryOut]

/-- What the processing of a command can do: replay a cached reply, refuse, or carry the command out (R146). -/
theorem process_cases (s : State) (c : Command) (free : Bool) (body : CommandBody) :
    (∃ r, s.inEpoch c = true ∧ s.cached? c.tag = some r ∧ r.fingerprint = c.fingerprint
        ∧ s.process c free body = s.queueReply { r.reply with replayed := true })
      ∨ (∃ st, s.process c free body = s.refuse c st)
      ∨ ((s.inEpoch c = true → s.cached? c.tag = none) ∧ s.process c free body = s.carryOut c body) := by
  unfold State.process
  cases he : s.inEpoch c
  · cases free
    · exact Or.inr (Or.inl ⟨_, rfl⟩)
    · exact Or.inr (Or.inr ⟨by simp, by simp⟩)
  · cases hc : s.cached? c.tag with
    | none => exact Or.inr (Or.inr ⟨by simp, by simp⟩)
    | some r =>
      by_cases hf : r.fingerprint = c.fingerprint
      · exact Or.inl ⟨r, rfl, rfl, hf, by simp [hf]⟩
      · exact Or.inr (Or.inl ⟨.tagConflict, by simp [hf]⟩)

/-- The answer touches the reply queue and the reply cache alone (R146, steps 4 and 5). -/
theorem answer_eq (s : State) (c : Command) (r : Response) :
    s.answer c r = s.queueReply (c.reply r)
      ∨ (s.inEpoch c = true ∧ s.answer c r = { s.queueReply (c.reply r) with
          mge.cache := cacheInsert s.mge.cache { tag := c.tag, fingerprint := c.fingerprint, reply := c.reply r } }) := by
  unfold State.answer
  cases he : s.inEpoch c
  · exact Or.inl (by simp [State.inEpoch] at he ⊢; simp [he])
  · exact Or.inr ⟨rfl, by simp [State.inEpoch] at he ⊢; simp [he]⟩

/-- A property of the fields a take itself does not touch is kept by a take whose command's own rule keeps it. -/
theorem take_keeps {P : State → Prop} {accepts : Byte → Bool} {free : Bool} {body : CommandBody} (h : P s)
    (hm : ∀ t m r n, P t → P { t with mge.commands := m, mge.cache := r, rlt := n })
    (hs : ∀ t, P t → P t.settle) (hb : ∀ c t, s.mayTake accepts = true → t = popped s → P t → P (body c t).1) :
    P (take accepts free body s) := by
  refine event_keeps h (fun _ hd => ?_) hs
  unfold State.takeHead
  cases hq : s.mge.commands with
  | nil => exact h
  | cons c rest =>
    have hpop : P (popped s) := hm s s.mge.commands.tail s.mge.cache s.rlt h
    have heq : { s with mge.commands := rest } = popped s := by simp [popped, hq]
    simp only [heq]
    rcases process_cases (popped s) c free body with ⟨r, -, -, -, he⟩ | ⟨st, he⟩ | ⟨-, he⟩
    · rw [he]; exact hm _ _ _ _ hpop
    · rw [he]; exact hm _ _ _ _ hpop
    · rw [he]
      have hbody := hb c _ hd rfl hpop
      unfold State.carryOut
      rcases answer_eq (body c (popped s)).1 c (body c (popped s)).2 with ha | ⟨-, ha⟩
      · rw [ha]
        exact hm _ (body c (popped s)).1.mge.commands (body c (popped s)).1.mge.cache
          ((body c (popped s)).1.queueReply (c.reply (body c (popped s)).2)).rlt hbody
      · rw [ha]
        exact hm (body c (popped s)).1 (body c (popped s)).1.mge.commands _
          ((body c (popped s)).1.queueReply (c.reply (body c (popped s)).2)).rlt hbody

/-! ### The frame of an answer -/

@[simp] theorem answer_lrx (c : Command) (r : Response) : (s.answer c r).lrx = s.lrx := by
  rcases answer_eq s c r with h | ⟨-, h⟩ <;> rw [h] <;> rfl
@[simp] theorem answer_frames (c : Command) (r : Response) : (s.answer c r).frames = s.frames := by
  rcases answer_eq s c r with h | ⟨-, h⟩ <;> rw [h] <;> rfl
@[simp] theorem answer_store (c : Command) (r : Response) : (s.answer c r).store = s.store := by
  rcases answer_eq s c r with h | ⟨-, h⟩ <;> rw [h] <;> rfl
@[simp] theorem answer_lsq (c : Command) (r : Response) : (s.answer c r).lsq = s.lsq := by
  rcases answer_eq s c r with h | ⟨-, h⟩ <;> rw [h] <;> rfl
@[simp] theorem answer_cfs (c : Command) (r : Response) : (s.answer c r).cfs = s.cfs := by
  rcases answer_eq s c r with h | ⟨-, h⟩ <;> rw [h] <;> rfl
@[simp] theorem answer_otg (c : Command) (r : Response) : (s.answer c r).otg = s.otg := by
  rcases answer_eq s c r with h | ⟨-, h⟩ <;> rw [h] <;> rfl
@[simp] theorem answer_ovc (c : Command) (r : Response) : (s.answer c r).ovc = s.ovc := by
  rcases answer_eq s c r with h | ⟨-, h⟩ <;> rw [h] <;> rfl
@[simp] theorem answer_ctb (c : Command) (r : Response) : (s.answer c r).ctb = s.ctb := by
  rcases answer_eq s c r with h | ⟨-, h⟩ <;> rw [h] <;> rfl
@[simp] theorem answer_resetHeld (c : Command) (r : Response) : (s.answer c r).resetHeld = s.resetHeld := by
  rcases answer_eq s c r with h | ⟨-, h⟩ <;> rw [h] <;> rfl
@[simp] theorem answer_powerOns (c : Command) (r : Response) : (s.answer c r).powerOns = s.powerOns := by
  rcases answer_eq s c r with h | ⟨-, h⟩ <;> rw [h] <;> rfl
@[simp] theorem answer_choices (c : Command) (r : Response) : (s.answer c r).choices = s.choices := by
  rcases answer_eq s c r with h | ⟨-, h⟩ <;> rw [h] <;> rfl
@[simp] theorem answer_pending (c : Command) (r : Response) : (s.answer c r).pending = s.pending := by
  rcases answer_eq s c r with h | ⟨-, h⟩ <;> rw [h] <;> rfl

/-- The reply joins the tail of the reply queue, and nothing else of the return lane changes (R146, step 4). -/
@[simp] theorem answer_rlt (c : Command) (r : Response) :
    (s.answer c r).rlt = { s.rlt with replies := s.rlt.replies ++ [c.reply r] } := by
  rcases answer_eq s c r with h | ⟨-, h⟩ <;> rw [h] <;> rfl

@[simp] theorem answer_session (c : Command) (r : Response) : (s.answer c r).mge.session = s.mge.session := by
  rcases answer_eq s c r with h | ⟨-, h⟩ <;> rw [h] <;> rfl
@[simp] theorem answer_commands (c : Command) (r : Response) : (s.answer c r).mge.commands = s.mge.commands := by
  rcases answer_eq s c r with h | ⟨-, h⟩ <;> rw [h] <;> rfl
@[simp] theorem answer_lastEpoch (c : Command) (r : Response) : (s.answer c r).mge.lastEpoch = s.mge.lastEpoch := by
  rcases answer_eq s c r with h | ⟨-, h⟩ <;> rw [h] <;> rfl
@[simp] theorem answer_resetPending (c : Command) (r : Response) :
    (s.answer c r).mge.resetPending = s.mge.resetPending := by
  rcases answer_eq s c r with h | ⟨-, h⟩ <;> rw [h] <;> rfl
@[simp] theorem answer_resetCause (c : Command) (r : Response) :
    (s.answer c r).mge.resetCause = s.mge.resetCause := by
  rcases answer_eq s c r with h | ⟨-, h⟩ <;> rw [h] <;> rfl

/-- Every row that takes a command is the take of Table 9-2 with some rule of its own (R145, R146). -/
theorem exec_commandRow {c : Command} {i : Instr} {code : Byte} {free : Bool} (h : commandRow i code free)
    (ha : AtHead s c code) : ∃ body, exec i s = .next ((popped s).process c free body).settle := by
  rcases h with h | ⟨rfl, h, rfl⟩
  · simp only [List.mem_cons, List.not_mem_nil, or_false, Prod.mk.injEq] at h
    iterate 22
      obtain ⟨rfl, rfl, rfl⟩ | h := h
      · exact ⟨_, congrArg _ (take_of_atHead ha rfl)⟩
    obtain ⟨rfl, rfl, rfl⟩ := h
    exact ⟨_, congrArg _ (take_of_atHead ha rfl)⟩
  · exact ⟨_, congrArg _ (take_of_atHead ha (by simpa using h))⟩

end Sys2Proof.Machine
end

