-- ==== Sys2Proof/Laws/Blocks.lean ====
section
/-! SUPPORT. The frame of each operation that several commands share: which blocks it leaves alone, once for each. -/

namespace Sys2Proof.Machine

variable (s : State)

/-! ### Frames and lines -/

/-- Abandoning a frame touches the frame list, the line store, ABANDONED_FRAME and the notices (R21). -/
@[simp] theorem State.abandon_frame (t : Byte) :
    (s.abandon t).lrx = s.lrx ∧ (s.abandon t).lsq = s.lsq ∧ (s.abandon t).cfs = s.cfs
      ∧ (s.abandon t).otg = s.otg ∧ (s.abandon t).ovc = s.ovc ∧ (s.abandon t).mge = s.mge
      ∧ (s.abandon t).resetHeld = s.resetHeld ∧ (s.abandon t).powerOns = s.powerOns ∧ (s.abandon t).choices = s.choices
      ∧ (s.abandon t).pending = s.pending := by
  unfold State.abandon; simp

/-- Making room for a frame touches what an abandonment does (R20). -/
@[simp] theorem State.makeRoom_frame :
    (s.makeRoom).lrx = s.lrx ∧ (s.makeRoom).lsq = s.lsq ∧ (s.makeRoom).cfs = s.cfs
      ∧ (s.makeRoom).otg = s.otg ∧ (s.makeRoom).ovc = s.ovc ∧ (s.makeRoom).mge = s.mge
      ∧ (s.makeRoom).resetHeld = s.resetHeld ∧ (s.makeRoom).powerOns = s.powerOns ∧ (s.makeRoom).choices = s.choices
      ∧ (s.makeRoom).pending = s.pending := by
  unfold State.makeRoom
  split
  · simp
  · split <;> simp

/-- An OPEN touches the frame list, the line store, the counters and the notices (R20). -/
@[simp] theorem State.openArrival_frame (t : Byte) :
    (s.openArrival t).lrx = s.lrx ∧ (s.openArrival t).lsq = s.lsq ∧ (s.openArrival t).cfs = s.cfs
      ∧ (s.openArrival t).otg = s.otg ∧ (s.openArrival t).ovc = s.ovc ∧ (s.openArrival t).mge = s.mge
      ∧ (s.openArrival t).resetHeld = s.resetHeld ∧ (s.openArrival t).powerOns = s.powerOns ∧ (s.openArrival t).choices = s.choices
      ∧ (s.openArrival t).pending = s.pending := by
  unfold State.openArrival
  split
  · simp
  · split <;> simp

/-- A CLOSE touches the frame list and the counters (R22). -/
@[simp] theorem State.closeArrival_frame (t : Byte) :
    (s.closeArrival t).lrx = s.lrx ∧ (s.closeArrival t).store = s.store ∧ (s.closeArrival t).lsq = s.lsq
      ∧ (s.closeArrival t).cfs = s.cfs ∧ (s.closeArrival t).otg = s.otg ∧ (s.closeArrival t).ovc = s.ovc
      ∧ (s.closeArrival t).mge = s.mge ∧ (s.closeArrival t).rlt = s.rlt ∧ (s.closeArrival t).resetHeld = s.resetHeld
      ∧ (s.closeArrival t).powerOns = s.powerOns ∧ (s.closeArrival t).choices = s.choices ∧ (s.closeArrival t).pending = s.pending := by
  unfold State.closeArrival
  split
  · simp
  · split
    · split <;> simp
    · simp

/-- A line lost to overflow touches the frame list, the counters and the notices (R27). -/
@[simp] theorem State.lineOverflow_frame (r : FrameRecord) (n : Nat) :
    (s.lineOverflow r n).lrx = s.lrx ∧ (s.lineOverflow r n).store = s.store ∧ (s.lineOverflow r n).lsq = s.lsq
      ∧ (s.lineOverflow r n).cfs = s.cfs ∧ (s.lineOverflow r n).otg = s.otg ∧ (s.lineOverflow r n).ovc = s.ovc
      ∧ (s.lineOverflow r n).mge = s.mge ∧ (s.lineOverflow r n).resetHeld = s.resetHeld ∧ (s.lineOverflow r n).powerOns = s.powerOns
      ∧ (s.lineOverflow r n).choices = s.choices ∧ (s.lineOverflow r n).pending = s.pending := by
  unfold State.lineOverflow
  by_cases h : r.overflowNoticed <;> simp [h]

/-- A stored line touches the frame list, the line store and the counters (R28). -/
@[simp] theorem State.lineAppend_frame (l : LineRecord) :
    (s.lineAppend l).lrx = s.lrx ∧ (s.lineAppend l).lsq = s.lsq ∧ (s.lineAppend l).cfs = s.cfs
      ∧ (s.lineAppend l).otg = s.otg ∧ (s.lineAppend l).ovc = s.ovc ∧ (s.lineAppend l).mge = s.mge
      ∧ (s.lineAppend l).rlt = s.rlt ∧ (s.lineAppend l).resetHeld = s.resetHeld ∧ (s.lineAppend l).powerOns = s.powerOns
      ∧ (s.lineAppend l).choices = s.choices ∧ (s.lineAppend l).pending = s.pending := by
  unfold State.lineAppend
  cases l.damaged <;> cases s.cfs.active <;> simp <;> split <;> simp

/-- A LINE touches the frame list, the line store, the counters and the notices (R26 to R28). -/
@[simp] theorem State.lineArrival_frame (l : LineRecord) :
    (s.lineArrival l).lrx = s.lrx ∧ (s.lineArrival l).lsq = s.lsq ∧ (s.lineArrival l).cfs = s.cfs
      ∧ (s.lineArrival l).otg = s.otg ∧ (s.lineArrival l).ovc = s.ovc ∧ (s.lineArrival l).mge = s.mge
      ∧ (s.lineArrival l).resetHeld = s.resetHeld ∧ (s.lineArrival l).powerOns = s.powerOns ∧ (s.lineArrival l).choices = s.choices
      ∧ (s.lineArrival l).pending = s.pending := by
  unfold State.lineArrival
  split
  · simp
  · split
    · simp
    · split
      · simp
      · split
        · simp
        · split <;> simp

/-- A release touches the frame list, the line store, the binding and EXCESS_LINE (R25, R73). -/
@[simp] theorem State.release_frame :
    (s.release).lrx = s.lrx ∧ (s.release).cfs = s.cfs ∧ (s.release).otg = s.otg
      ∧ (s.release).ovc = s.ovc ∧ (s.release).mge = s.mge ∧ (s.release).rlt = s.rlt
      ∧ (s.release).resetHeld = s.resetHeld ∧ (s.release).powerOns = s.powerOns ∧ (s.release).choices = s.choices
      ∧ (s.release).pending = s.pending := by
  unfold State.release
  split <;> simp

/-- Abandoning older frames touches what an abandonment does (R24). -/
@[simp] theorem State.abandonOlder_frame (p : Nat) :
    (s.abandonOlder p).lrx = s.lrx ∧ (s.abandonOlder p).lsq = s.lsq ∧ (s.abandonOlder p).cfs = s.cfs
      ∧ (s.abandonOlder p).otg = s.otg ∧ (s.abandonOlder p).ovc = s.ovc ∧ (s.abandonOlder p).mge = s.mge
      ∧ (s.abandonOlder p).resetHeld = s.resetHeld ∧ (s.abandonOlder p).powerOns = s.powerOns ∧ (s.abandonOlder p).choices = s.choices
      ∧ (s.abandonOlder p).pending = s.pending := by
  unfold State.abandonOlder
  generalize (s.frames.takeWhile (fun r => !r.ready p)).filter (fun r => !r.bound) = rs
  induction rs generalizing s with
  | nil => simp
  | cons r rest ih =>
    have := ih (s.abandon r.tag)
    simpa using this

/-! ### The Line Sequencer -/

/-- Discarding stale records touches the frame list, the line store and STALE_LINE (R66). -/
@[simp] theorem State.discardStale_frame (t : Byte) (e fuel : Nat) :
    (State.discardStale t e fuel s).lrx = s.lrx ∧ (State.discardStale t e fuel s).lsq = s.lsq
      ∧ (State.discardStale t e fuel s).cfs = s.cfs ∧ (State.discardStale t e fuel s).otg = s.otg
      ∧ (State.discardStale t e fuel s).ovc = s.ovc ∧ (State.discardStale t e fuel s).mge = s.mge
      ∧ (State.discardStale t e fuel s).rlt = s.rlt ∧ (State.discardStale t e fuel s).resetHeld = s.resetHeld
      ∧ (State.discardStale t e fuel s).powerOns = s.powerOns ∧ (State.discardStale t e fuel s).choices = s.choices
      ∧ (State.discardStale t e fuel s).pending = s.pending := by
  induction fuel generalizing s with
  | zero => simp [State.discardStale]
  | succ n ih =>
    unfold State.discardStale
    split
    · simp
    · split
      · have := ih ((s.consume t).count .staleLine)
        simpa using this
      · simp

/-- Looking for a number touches the frame list, the line store and STALE_LINE (R65, R66). -/
@[simp] theorem State.fetchNumber_frame :
    s.fetchNumber.1.lrx = s.lrx ∧ s.fetchNumber.1.lsq = s.lsq ∧ s.fetchNumber.1.cfs = s.cfs
      ∧ s.fetchNumber.1.otg = s.otg ∧ s.fetchNumber.1.ovc = s.ovc ∧ s.fetchNumber.1.mge = s.mge
      ∧ s.fetchNumber.1.rlt = s.rlt ∧ s.fetchNumber.1.resetHeld = s.resetHeld ∧ s.fetchNumber.1.powerOns = s.powerOns
      ∧ s.fetchNumber.1.choices = s.choices ∧ s.fetchNumber.1.pending = s.pending := by
  unfold State.fetchNumber
  split
  · simp
  · dsimp only
    split
    · simp
    · split <;> simp

/-- A missing number touches the underrun flag, MISSING_LINE and the notices (R68). -/
@[simp] theorem State.noteMissing_frame :
    s.noteMissing.lrx = s.lrx ∧ s.noteMissing.frames = s.frames ∧ s.noteMissing.store = s.store
      ∧ s.noteMissing.cfs = s.cfs ∧ s.noteMissing.otg = s.otg ∧ s.noteMissing.ovc = s.ovc
      ∧ s.noteMissing.mge = s.mge ∧ s.noteMissing.resetHeld = s.resetHeld ∧ s.noteMissing.powerOns = s.powerOns
      ∧ s.noteMissing.choices = s.choices ∧ s.noteMissing.pending = s.pending := by
  unfold State.noteMissing
  by_cases h : s.lsq.underrunNoticed <;> simp [h]

/-- Obtaining a number touches the frame list, the line store, the Line Sequencer, the counters and the notices (R42). -/
@[simp] theorem State.obtain_frame (r : Raster) :
    (s.obtain r).1.lrx = s.lrx ∧ (s.obtain r).1.cfs = s.cfs ∧ (s.obtain r).1.otg = s.otg
      ∧ (s.obtain r).1.ovc = s.ovc ∧ (s.obtain r).1.mge = s.mge ∧ (s.obtain r).1.resetHeld = s.resetHeld
      ∧ (s.obtain r).1.powerOns = s.powerOns ∧ (s.obtain r).1.choices = s.choices ∧ (s.obtain r).1.pending = s.pending := by
  unfold State.obtain
  dsimp only
  split
  · simp
  · split <;> simp

/-- A drop touches the frame list, the line store, the Line Sequencer and STALE_LINE (R44). -/
@[simp] theorem State.dropNumber_frame :
    s.dropNumber.lrx = s.lrx ∧ s.dropNumber.cfs = s.cfs ∧ s.dropNumber.otg = s.otg
      ∧ s.dropNumber.ovc = s.ovc ∧ s.dropNumber.mge = s.mge ∧ s.dropNumber.rlt = s.rlt
      ∧ s.dropNumber.resetHeld = s.resetHeld ∧ s.dropNumber.powerOns = s.powerOns ∧ s.dropNumber.choices = s.choices
      ∧ s.dropNumber.pending = s.pending := by
  unfold State.dropNumber
  simp

/-- The walk of a line touches the frame list, the line store, the Line Sequencer, the counters and the notices (R41). -/
@[simp] theorem State.walkLine_frame (r : Raster) (e : Entry) (p : Nat) :
    (s.walkLine r e p).1.lrx = s.lrx ∧ (s.walkLine r e p).1.cfs = s.cfs ∧ (s.walkLine r e p).1.otg = s.otg
      ∧ (s.walkLine r e p).1.ovc = s.ovc ∧ (s.walkLine r e p).1.mge = s.mge ∧ (s.walkLine r e p).1.resetHeld = s.resetHeld
      ∧ (s.walkLine r e p).1.powerOns = s.powerOns ∧ (s.walkLine r e p).1.choices = s.choices ∧ (s.walkLine r e p).1.pending = s.pending := by
  unfold State.walkLine
  split
  · simp [State.showNumber]
  · unfold State.showThin State.showNumber
    dsimp only
    split <;> split <;> simp
  · simp
  · simp

/-! ### Frame starts and output states -/

/-- A coast touches the coasting flag, COASTED_FRAME and the notices (R64). -/
@[simp] theorem State.coast_frame :
    (s.coast).lrx = s.lrx ∧ (s.coast).frames = s.frames ∧ (s.coast).store = s.store
      ∧ (s.coast).cfs = s.cfs ∧ (s.coast).otg = s.otg ∧ (s.coast).ovc = s.ovc
      ∧ (s.coast).mge = s.mge ∧ (s.coast).resetHeld = s.resetHeld ∧ (s.coast).powerOns = s.powerOns
      ∧ (s.coast).choices = s.choices ∧ (s.coast).pending = s.pending := by
  unfold State.coast
  by_cases h : s.lsq.coastingNoticed <;> simp [h]

/-- The application of a pending commit touches the banks and the notices (R138). -/
@[simp] theorem State.applyPendingCommit_frame :
    (s.applyPendingCommit).lrx = s.lrx ∧ (s.applyPendingCommit).frames = s.frames ∧ (s.applyPendingCommit).store = s.store
      ∧ (s.applyPendingCommit).lsq = s.lsq ∧ (s.applyPendingCommit).otg = s.otg ∧ (s.applyPendingCommit).ovc = s.ovc
      ∧ (s.applyPendingCommit).mge = s.mge ∧ (s.applyPendingCommit).ctb = s.ctb ∧ (s.applyPendingCommit).resetHeld = s.resetHeld
      ∧ (s.applyPendingCommit).powerOns = s.powerOns ∧ (s.applyPendingCommit).choices = s.choices ∧ (s.applyPendingCommit).pending = s.pending := by
  unfold State.applyPendingCommit
  split <;> simp

/-- A coasted frame start touches the Line Sequencer, the generator, COASTED_FRAME and the notices (R62, R64). -/
@[simp] theorem State.frameStartCoast_frame :
    (s.frameStartCoast).lrx = s.lrx ∧ (s.frameStartCoast).frames = s.frames ∧ (s.frameStartCoast).store = s.store
      ∧ (s.frameStartCoast).cfs = s.cfs ∧ (s.frameStartCoast).ovc = s.ovc ∧ (s.frameStartCoast).mge = s.mge
      ∧ (s.frameStartCoast).resetHeld = s.resetHeld ∧ (s.frameStartCoast).powerOns = s.powerOns ∧ (s.frameStartCoast).choices = s.choices
      ∧ (s.frameStartCoast).pending = s.pending := by
  unfold State.frameStartCoast; simp

/-- A frame start in FREE touches the frame list, the Line Sequencer, the generator, the counters and the notices (R63). -/
@[simp] theorem State.frameStartFree_frame :
    (s.frameStartFree).lrx = s.lrx ∧ (s.frameStartFree).store = s.store ∧ (s.frameStartFree).cfs = s.cfs
      ∧ (s.frameStartFree).ovc = s.ovc ∧ (s.frameStartFree).mge = s.mge ∧ (s.frameStartFree).resetHeld = s.resetHeld
      ∧ (s.frameStartFree).powerOns = s.powerOns ∧ (s.frameStartFree).choices = s.choices ∧ (s.frameStartFree).pending = s.pending := by
  unfold State.frameStartFree
  split <;> simp

/-- A frame start by readiness touches the frame list, the line store, the Line Sequencer, the generator, the counters and
the notices (R62, R24). -/
@[simp] theorem State.frameStartReady_frame (p : Nat) (t : Byte) :
    (s.frameStartReady p t).lrx = s.lrx ∧ (s.frameStartReady p t).cfs = s.cfs ∧ (s.frameStartReady p t).ovc = s.ovc
      ∧ (s.frameStartReady p t).mge = s.mge ∧ (s.frameStartReady p t).resetHeld = s.resetHeld ∧ (s.frameStartReady p t).powerOns = s.powerOns
      ∧ (s.frameStartReady p t).choices = s.choices ∧ (s.frameStartReady p t).pending = s.pending := by
  unfold State.frameStartReady; simp

/-- The entry to OFF touches neither the link nor the management (R98). -/
@[simp] theorem State.enterOff_frame :
    (s.enterOff).lrx = s.lrx ∧ (s.enterOff).mge = s.mge ∧ (s.enterOff).resetHeld = s.resetHeld
      ∧ (s.enterOff).powerOns = s.powerOns ∧ (s.enterOff).choices = s.choices ∧ (s.enterOff).pending = s.pending := by
  unfold State.enterOff; simp

/-! ### The palette -/

/-- Applying items leaves every entry that none of them names alone (R123). -/
theorem applyItems_outside (items : List PaletteItem) (palette : List (Nat × Pixel)) (k : Nat)
    (h : ∀ item ∈ items, k < item.first ∨ item.first + item.colours.length ≤ k) :
    Cells.read? (items.foldl applyItem palette) k = Cells.read? palette k := by
  induction items generalizing palette with
  | nil => rfl
  | cons item rest ih =>
    rw [List.foldl_cons, ih _ fun x hx => h x (List.mem_cons_of_mem _ hx)]
    exact Cells.read?_writeFrom_outside _ _ _ _ (h item List.mem_cons_self)

/-- Applying items gives an entry the colour of the youngest item that names it (R123). -/
theorem applyItems_youngest (older : List PaletteItem) (item : PaletteItem) (younger : List PaletteItem)
    (palette : List (Nat × Pixel)) (i : Nat) (hi : i < item.colours.length)
    (h : ∀ y ∈ younger, item.first + i < y.first ∨ y.first + y.colours.length ≤ item.first + i) :
    Cells.read? ((older ++ item :: younger).foldl applyItem palette) (item.first + i) = some item.colours[i] := by
  rw [List.foldl_append, List.foldl_cons, applyItems_outside younger _ _ h]
  exact Cells.read?_writeFrom_inside _ _ _ _ hi

/-! ### Link reset -/

/-- The receiver's own part of a link reset touches it, LINK_LOSS and the notices (R10). -/
@[simp] theorem State.loseLock_frame (c : LossCause) :
    (s.loseLock c).frames = s.frames ∧ (s.loseLock c).store = s.store ∧ (s.loseLock c).lsq = s.lsq
      ∧ (s.loseLock c).cfs = s.cfs ∧ (s.loseLock c).otg = s.otg ∧ (s.loseLock c).ovc = s.ovc
      ∧ (s.loseLock c).mge = s.mge ∧ (s.loseLock c).resetHeld = s.resetHeld ∧ (s.loseLock c).powerOns = s.powerOns
      ∧ (s.loseLock c).choices = s.choices ∧ (s.loseLock c).pending = s.pending := by
  unfold State.loseLock; simp

/-- The responses to a link reset touch neither the output nor the overlay (Table 1-5). -/
@[simp] theorem State.dropLink_frame :
    (s.dropLink).lrx = s.lrx ∧ (s.dropLink).otg = s.otg ∧ (s.dropLink).ovc = s.ovc
      ∧ (s.dropLink).ctb = s.ctb ∧ (s.dropLink).resetHeld = s.resetHeld ∧ (s.dropLink).powerOns = s.powerOns
      ∧ (s.dropLink).choices = s.choices ∧ (s.dropLink).pending = s.pending := by
  unfold State.dropLink
  dsimp only
  split <;> simp

end Sys2Proof.Machine
end

