-- ==== Sys2Proof/Laws/Fields.lean ====
section
/-! SUPPORT. The counters as fields (R165, R166), and the lengths of the encodings (section 8.2, Tables 1-1, 10-1). -/

namespace Sys2Proof.Machine

/-! ### Counters -/

/-- Counting one counter changes that counter alone. -/
theorem Ctb.get_count (b : Ctb) (c d : Counter) :
    (b.count c).get d = if c = d then satInc (b.get c) else b.get d := by
  unfold Ctb.count Ctb.get
  cases c <;> cases d <;> simp [Counter.index]

@[simp] theorem Ctb.get_count_same (b : Ctb) (c : Counter) : (b.count c).get c = satInc (b.get c) := by
  simp [Ctb.get_count]

@[simp] theorem Ctb.get_count_other (b : Ctb) (c d : Counter) (h : c ≠ d) : (b.count c).get d = b.get d := by
  simp [Ctb.get_count, h]

/-- Counting a counter any number of times leaves the others alone. -/
theorem Ctb.get_countTimes_other (b : Ctb) (c d : Counter) (n : Nat) (h : c ≠ d) :
    (b.countTimes c n).get d = b.get d := by
  induction n generalizing b with
  | zero => rfl
  | succ n ih => rw [Ctb.countTimes, ih, Ctb.get_count_other _ _ _ h]

@[simp] theorem Ctb.get_zero (c : Counter) : Ctb.zero.get c = 0 := by cases c <;> decide

@[simp] theorem Ctb.length_bytes (b : Ctb) : b.bytes.length = 28 := by
  simp [Ctb.bytes, wordBytes2, List.length_flatMap]

/-! ### The numbers of the tables -/

/-- Each status has its code of Table 9-3. -/
theorem Status.code_mem (st : Status) : (st, st.code) ∈ statusCodes := by cases st <;> decide

/-- Each notice has its kind of Table 10-3. -/
theorem NoticeKind.number_mem (k : NoticeKind) : (k, k.number) ∈ noticeKinds := by cases k <;> decide

/-- Each counter has its index of Table 10-4. -/
theorem Counter.index_mem (k : Counter) : (k, k.index.val) ∈ counterIndices := by cases k <;> decide

/-- The well-formed headers are those Table 1-2 admits (R4). -/
theorem wellFormed_headerOf (b : List Byte) : (headerOf b).wellFormed = true ↔ headerAllowed b := by
  have hk : ∀ n, n < 256 → ((byteAt b 0).toNat = n ↔ byteAt b 0 = BitVec.ofNat 8 n) := fun n hn =>
    ⟨fun h => BitVec.eq_of_toNat_eq (by simp [h, Nat.mod_eq_of_lt hn]), fun h => by rw [h]; simp [Nat.mod_eq_of_lt hn]⟩
  unfold Header.wellFormed headerAllowed headerOf
  dsimp only
  split
  · rename_i h; rw [hk 1 (by omega)] at h; simp [h]
  · rename_i h; rw [hk 2 (by omega)] at h; simp [h, and_assoc]
  · rename_i h; rw [hk 3 (by omega)] at h; simp [h, and_assoc]
  · rename_i h; rw [hk 4 (by omega)] at h; simp [h]
  · rename_i h; rw [hk 5 (by omega)] at h; simp [h, and_assoc]
  · rename_i h1 h2 h3 h4 h5
    simp [(hk 1 (by omega)).not.mp h1, (hk 2 (by omega)).not.mp h2, (hk 3 (by omega)).not.mp h3,
      (hk 4 (by omega)).not.mp h4, (hk 5 (by omega)).not.mp h5]

/-! ### Lengths -/

@[simp] theorem length_natBytes2 (n : Nat) : (natBytes2 n).length = 2 := rfl
@[simp] theorem length_wordBytes2 (w : Word16) : (wordBytes2 w).length = 2 := rfl
@[simp] theorem length_wordBytes4 (w : Word32) : (wordBytes4 w).length = 4 := rfl
@[simp] theorem length_encodeRaster (r : Raster) : (encodeRaster r).length = 26 := by simp [encodeRaster]
@[simp] theorem length_encodeEntry (e : Entry) : (encodeEntry e).length = 9 := by simp [encodeEntry]
@[simp] theorem length_encodeWindow (w : Window) : (encodeWindow w).length = 18 := by simp [encodeWindow]
@[simp] theorem length_headerBytes (h : Header) : h.bytes.length = 6 := by simp [Header.bytes]
@[simp] theorem length_statusRecord (s : State) : s.statusRecord.length = 30 := by simp [State.statusRecord]

/-- A number below 65536 survives its two bytes, at the head of any list. -/
theorem natAt2_natBytes2 (n : Nat) (rest : List Byte) (h : n < 65536) : natAt2 (natBytes2 n ++ rest) 0 = n := by
  simp [natAt2, natBytes2, byteAt, byteOf]
  omega

/-- A 16-bit register survives its two bytes. -/
theorem wordAt2_wordBytes2 (w : Word16) (rest : List Byte) : wordAt2 (wordBytes2 w ++ rest) 0 = w := by
  show w.extractLsb' 8 8 ++ w.extractLsb' 0 8 = w
  apply BitVec.eq_of_getLsbD_eq
  intro i hi
  simp only [BitVec.getLsbD_append, BitVec.getLsbD_extractLsb']
  by_cases h : i < 8
  · simp [h]
  · simp [h, show i - 8 < 8 by omega, show 8 + (i - 8) = i by omega]

/-! ### Bytes of a list -/

@[simp] theorem byteAt_cons_zero (b : Byte) (rest : List Byte) : byteAt (b :: rest) 0 = b := rfl
@[simp] theorem byteAt_cons_succ (b : Byte) (rest : List Byte) (i : Nat) : byteAt (b :: rest) (i + 1) = byteAt rest i := rfl

/-- Reading past a first part reads the second. -/
theorem byteAt_append_right (l r : List Byte) (i : Nat) : byteAt (l ++ r) (l.length + i) = byteAt r i := by
  simp [byteAt, List.getElem?_append_right]

end Sys2Proof.Machine
end

