-- ==== Sys2Proof/WellFormed.lean ====
section
/-! DEFINITION. Which commands the link can deliver. -/

namespace Sys2Proof

/-- The operand check of each command. Only PACKET_RECEPTION_END has an operand: a reception ends at the latest at
the last byte of the longest packet, 6156 bytes (R1, section 1.1). `exec` has a meaning for longer lists too: the
bytes past the end of the reception belong to no packet. -/
def Instr.wellFormed : Instr → Bool
  | .packetReceptionEnd bytes => bytes.length ≤ Config.longestPacket
  | .powerOnReset | .pinReset | .pinResetRelease | .deviceResetEvent | .startSymbol
  | .silenceTimerExpiry | .idleTimerExpiry | .laneFree | .lineStart | .activeDataEnd
  | .lineEnd | .waitLineEnd | .frameEnd | .ping | .openSession | .closeSession | .readStatus
  | .setNotices | .deviceReset | .stageRaster | .stageProgram | .stageProgramLength
  | .stagePattern | .insertWindow | .removeWindow | .moveWindow | .commit | .discard
  | .readConfig | .writeGlyph | .writePalette | .startOutput | .stopOutput | .holdOutput
  | .resumeOutput | .readCounters | .unknownCommand => true

end Sys2Proof
end

