-- ==== Sys2Proof/Laws/PerInstr.lean ====
section
/-! SUPPORT. One lemma for each command, family Operand: every command is well formed but a reception of more bytes than
the longest packet has. -/

namespace Sys2Proof.Laws.Operand

/-- A command is well formed, or it is the end of a reception of more bytes than the longest packet (R1). -/
def Statement (i : Instr) : Prop :=
  i.wellFormed = true ∨ ∃ bytes, i = .packetReceptionEnd bytes ∧ Config.longestPacket < bytes.length

theorem powerOnReset : Statement .powerOnReset := Or.inl rfl
theorem pinReset : Statement .pinReset := Or.inl rfl
theorem pinResetRelease : Statement .pinResetRelease := Or.inl rfl
theorem deviceResetEvent : Statement .deviceResetEvent := Or.inl rfl
theorem startSymbol : Statement .startSymbol := Or.inl rfl
theorem packetReceptionEnd (bytes : List Byte) : Statement (.packetReceptionEnd bytes) := by
  by_cases h : bytes.length ≤ Config.longestPacket
  · exact Or.inl (decide_eq_true h)
  · exact Or.inr ⟨bytes, rfl, Nat.lt_of_not_le h⟩
theorem silenceTimerExpiry : Statement .silenceTimerExpiry := Or.inl rfl
theorem idleTimerExpiry : Statement .idleTimerExpiry := Or.inl rfl
theorem laneFree : Statement .laneFree := Or.inl rfl
theorem lineStart : Statement .lineStart := Or.inl rfl
theorem activeDataEnd : Statement .activeDataEnd := Or.inl rfl
theorem lineEnd : Statement .lineEnd := Or.inl rfl
theorem waitLineEnd : Statement .waitLineEnd := Or.inl rfl
theorem frameEnd : Statement .frameEnd := Or.inl rfl
theorem ping : Statement .ping := Or.inl rfl
theorem openSession : Statement .openSession := Or.inl rfl
theorem closeSession : Statement .closeSession := Or.inl rfl
theorem readStatus : Statement .readStatus := Or.inl rfl
theorem setNotices : Statement .setNotices := Or.inl rfl
theorem deviceReset : Statement .deviceReset := Or.inl rfl
theorem stageRaster : Statement .stageRaster := Or.inl rfl
theorem stageProgram : Statement .stageProgram := Or.inl rfl
theorem stageProgramLength : Statement .stageProgramLength := Or.inl rfl
theorem stagePattern : Statement .stagePattern := Or.inl rfl
theorem insertWindow : Statement .insertWindow := Or.inl rfl
theorem removeWindow : Statement .removeWindow := Or.inl rfl
theorem moveWindow : Statement .moveWindow := Or.inl rfl
theorem commit : Statement .commit := Or.inl rfl
theorem discard : Statement .discard := Or.inl rfl
theorem readConfig : Statement .readConfig := Or.inl rfl
theorem writeGlyph : Statement .writeGlyph := Or.inl rfl
theorem writePalette : Statement .writePalette := Or.inl rfl
theorem startOutput : Statement .startOutput := Or.inl rfl
theorem stopOutput : Statement .stopOutput := Or.inl rfl
theorem holdOutput : Statement .holdOutput := Or.inl rfl
theorem resumeOutput : Statement .resumeOutput := Or.inl rfl
theorem readCounters : Statement .readCounters := Or.inl rfl
theorem unknownCommand : Statement .unknownCommand := Or.inl rfl

end Sys2Proof.Laws.Operand
end

