-- ==== Sys2Proof/Tests/Slice0.lean ====
section
/-! SUPPORT. The model's own tests: the WellFormed smoke test, the manual's worked values, one step of each row, and for
every statement with hypotheses a state that meets them, clause by clause, at the ends of their ranges. -/

namespace Sys2Proof.Tests

set_option Elab.async false

open Sys2Proof.Machine

/-! ### Small states -/

/-- A command of epoch 7 with tag 1. -/
def cmd (code : Byte) (args : List Byte) : Command := { payload := [0, 7, 1, code] ++ args, fingerprint := 0 }

/-- The session of epoch 7. -/
def session : Session := { epoch := 7, idleLimit := 0, idleElapsed := 0 }

/-- A state whose command queue holds one command that may be taken in session. -/
def ready (s : State) (c : Command) : State :=
  { s with
    mge := { s.mge with commands := [c], session := some session, cache := [], resetPending := false }
    rlt.replies := []
    resetHeld := false }

/-- A command stands at the head, in session, with these arguments. -/
def Taken (s : State) (c : Command) (code : Byte) (args : List Byte) : Prop :=
  AtHead s c code ∧ InSession s c ∧ c.args = args

theorem taken (s : State) (code : Byte) (args : List Byte) :
    Taken (ready s (cmd code args)) (cmd code args) code args :=
  ⟨⟨rfl, rfl, rfl, Nat.zero_lt_succ 15, rfl⟩,
    ⟨by simp [State.inEpoch, ready, session, Command.epoch, cmd, wordAt2, byteAt], rfl⟩, rfl⟩

/-- A window of one row and one column. -/
def window (id : Nat) : Window where
  id := id
  x := 0
  y := 0
  width := 1
  height := 1
  glyphBase := 0
  stride := 1
  depth := 1
  paletteBase := 0
  key := none
  weight := 8

/-- A raster of 4 by 2 active pixels in 6 pixel times by 4 lines. -/
def raster (mode : SyncMode) : Raster :=
  { Raster.default with
    width := 4
    height := 2
    hStart := 1
    vStart := 1
    lineTotal := 6
    frameTotal := 4
    linePulseWidth := 1
    framePulseWidth := 1
    syncMode := mode
    prime := 1
    coastLimit := 2 }

/-- A bank that passes validation: one SHOW run over both lines, pattern 0 a GATE of one bit, one window. -/
def bank (mode : SyncMode) : Bank :=
  { Bank.default with
    raster := raster mode
    program := Bank.default.program.set 0 { Entry.cleared with runLength := 2, action := .showLine, windowMask := 1 }
    programLength := 1
    patterns := Bank.default.patterns.set 0 (some { kind := .gate, bits := [true] })
    windows := [window 0] }

/-- The state after reset with an active and staging bank, in an output state. -/
def inOutput (mode : SyncMode) (o : OutputState) (phase : Phase) : State :=
  { State.cleared with
    cfs := { staging := bank mode, active := some (bank mode), commitPending := none }
    otg := { State.cleared.otg with output := o, phase := phase } }

/-- A line in progress outside the active area. -/
def blankLine (dataEnded : Bool) : Line :=
  { (bank .locked).lineOf .blank false (.level false) with dataEnded := dataEnded }

/-- The next state, when there is one. -/
def nextOf (o : Host.Outcome State Fault Refusal) : Option State :=
  match o with
  | .next t => some t
  | .fault _ => none
  | .refused _ => none

/-- A fact about the next state of a row. -/
def after (i : Instr) (s : State) (p : State → Bool) : Bool := (nextOf (exec i s)).any p

/-- The state with a link in LOCKED. -/
def locked (s : State) : State := { s with lrx := { s.lrx with lock := .locked, silence := some 0, receiving := true } }

/-- A GAP packet. -/
def gap : List Byte := packetBytes { kind := 3, tag := 0, number := 0, length := 0 } []
/-- An OPEN of frame 5. -/
def openFive : List Byte := packetBytes { kind := 1, tag := 5, number := 0, length := 0 } []
/-- A CLOSE of frame 5. -/
def closeFive : List Byte := packetBytes { kind := 4, tag := 5, number := 0, length := 0 } []
/-- A LINE of one pixel, number 0 of frame 5. -/
def lineFive : List Byte := packetBytes { kind := 2, tag := 5, number := 0, length := 3 } [1, 2, 3]
/-- A MGMT with a PING of epoch 7 and tag 1. -/
def pingPacket : List Byte := packetBytes { kind := 5, tag := 0, number := 0, length := 4 } [0, 7, 1, 1]
/-- The same with a wrong payload check. -/
def pingFailed : List Byte := pingPacket.take 12 ++ [0, 0, 0, 0]

/-- A frame record of tag 5. -/
def frameFive (state : FrameState) (bound : Bool) (stored : Nat) : FrameRecord where
  tag := 5
  state := state
  bound := bound
  highest := if stored = 0 then none else some (stored - 1)
  stored := stored
  overflowNoticed := false

/-- A line record of frame 5. -/
def line5 (number : Nat) (damaged : Bool) : LineRecord := { tag := 5, number := number, damaged := damaged, pixels := [1] }

/-! ### WellFormed -/

theorem test_wellFormed_refuses_too_long : Instr.wellFormed (.packetReceptionEnd (List.replicate 6157 0)) = false := by
  decide +kernel
theorem test_wellFormed_accepts_longest : Instr.wellFormed (.packetReceptionEnd (List.replicate 6156 0)) = true := by
  decide +kernel

/-! ### The manual's worked values -/

/-- R2: the header check of 31h..39h is 29B1h. -/
theorem test_headerCheck_reference : headerCheck [0x31, 0x32, 0x33, 0x34, 0x35, 0x36, 0x37, 0x38, 0x39] = 0x29B1 := by
  decide +kernel
/-- R3: the 32-bit check of 31h..39h is CBF43926h. -/
theorem test_payloadCheck_reference :
    payloadCheck [0x31, 0x32, 0x33, 0x34, 0x35, 0x36, 0x37, 0x38, 0x39] = 0xCBF43926 := by decide +kernel
/-- Table 3-3: the first values of the LFSR. -/
theorem test_lfsr_table : [1, 2, 3, 4, 5, 6].map (fun n => (lfsrAdvance^[n]) 0xACE1)
    = [0x5670, 0xAB38, 0x559C, 0x2ACE, 0x1567, 0x8AB3] := by decide +kernel
/-- Table 1-3: the six classes. -/
theorem test_packet_classes : [gap.take 7, gap.set 1 1, packetBytes { kind := 3, tag := 1, number := 0, length := 0 } [],
      lineFive.take 14, pingFailed, lineFive].map classify
    = [.short, .corrupt, .malformed, .truncated, .payloadFailed, .good] := by decide +kernel
/-- A default raster and a cleared entry, encoded (Tables 8-1 and 8-2). -/
theorem test_encode_defaults : encodeRaster Raster.default = List.replicate 25 0 ++ [0xFF]
    ∧ encodeEntry Entry.cleared = [0, 1, 3, 0, 0, 0, 0xFF, 0, 0] := by decide +kernel
/-- Table 8-5: one bank for each reason code, and the index it reports. -/
theorem test_validation_codes :
    (bank .locked).validate = none
      ∧ ([{ bank .locked with raster := { raster .locked with width := 0 } },
          { bank .locked with raster := { raster .locked with frameTotal := 2 } },
          { bank .locked with raster := { raster .locked with linePulseWidth := 0 } },
          { bank .locked with raster := { raster .locked with framePulseWidth := 16 } },
          { bank .locked with programLength := 0 },
          { bank .locked with raster := { raster .locked with height := 1 } },
          { bank .locked with program := (bank .locked).program.set 0 { Entry.cleared with
              runLength := 2, action := .showThin, thinDivisor := 17 } },
          { bank .locked with patterns := Bank.default.patterns },
          { bank .locked with raster := { raster .locked with blankClock := some 4 } },
          { bank .locked with windows := [window 0, { window 6 with y := 2 }, { window 4 with x := 4 }] },
          { bank .locked with windows := [{ window 3 with glyphBase := 16383, height := 2 }] },
          { bank .locked with windows := [{ window 3 with paletteBase := 255 }] },
          { bank .locked with windows := [{ window 3 with key := some 2 }] },
          { bank .locked with raster := { raster .locked with prime := 9 } }].map (·.validate)
        = [some ⟨1, none⟩, some ⟨2, none⟩, some ⟨3, none⟩, some ⟨4, none⟩, some ⟨5, none⟩, some ⟨6, none⟩,
           some ⟨7, some 0⟩, some ⟨8, some 0⟩, some ⟨9, some 4⟩, some ⟨10, some 4⟩, some ⟨11, some 3⟩,
           some ⟨12, some 3⟩, some ⟨13, some 3⟩, some ⟨14, none⟩]) := by decide +kernel
/-- R116: a blend rounds, and weight 8 replaces. -/
theorem test_blend : blend 4 0xFF0000 0x00FF01 = 0x808001 ∧ blend 8 0x123456 0xFFFFFF = 0x123456
    ∧ blend 1 0xFFFFFF 0x000000 = 0x202020 := by decide +kernel
/-- R115: glyph indices of depth 2 and 1, leftmost in the high bits. -/
theorem test_glyph_index :
    ([0, 1, 2, 3].map (Candidate.glyphIndex { window := { window 0 with depth := 2 }, row := [0x1B] }) = [0, 1, 2, 3])
      ∧ ([0, 1, 8].map (Candidate.glyphIndex { window := window 0, row := [0x40, 0x80] }) = [0, 1, 1]) := by
  decide +kernel
/-- R102 to R105: GATE, LEVEL and an inverted GATE over a pattern of three bits. -/
theorem test_panel_clock :
    ([0, 1, 2, 3].map (fun p => (ClockRegime.pattern .gate [true, false, true] false).levelAt p .first)
        = [true, false, true, true])
      ∧ (ClockRegime.pattern .gate [true] false).levelAt 0 .second = false
      ∧ (ClockRegime.pattern .gate [true] true).levelAt 0 .second = true
      ∧ (ClockRegime.pattern .level [true] false).levelAt 5 .second = true := by decide +kernel
/-- R53: pattern B on odd run positions. -/
theorem test_pattern_at : [0, 1, 2].map ({ Entry.cleared with patternA := 2, patternB := some 9 } : Entry).patternAt
    = [2, 9, 2] := by decide +kernel
/-- Table 10-1 and 10-2: the fixed bytes of a REPLY and a NOTICE. -/
theorem test_message_bytes :
    (Message.body (.reply ((cmd 1 [9]).reply { status := .done, detail := 0, data := [9] }))
        = [1, 1, 0, 7, 1, 0, 0, 0, 0, 1, 9])
      ∧ Message.body (.notice { kind := .frameAbandoned, detail := 0x0105, frame := 0x01020304 } 6)
        = [2, 9, 1, 2, 3, 4, 1, 5, 6] := by decide +kernel
/-- R126: a pattern of nine bits packs into two bytes and reads back. -/
theorem test_pattern_bits :
    encodePattern 3 (some { kind := .gate, bits := [true, false, false, false, false, false, false, true, true] })
        = [3, 1, 9, 0x81, 0x80]
      ∧ decodePattern [3, 1, 9, 0x81, 0x80]
        = some (3, some { kind := .gate, bits := [true, false, false, false, false, false, false, true, true] }) := by
  decide +kernel

/-! ### One step of each row -/

theorem test_step_ticks_lane : (nextOf (step State.reset)).map (·.rlt.lane)
    = some (.busy (.notice { kind := .resetDone, detail := 0, frame := 0 } 0) 1) := by decide +kernel
theorem test_powerOnReset : after .powerOnReset (inOutput .free .active .lineStartDue)
    (fun t => t.otg.output == .off && t.powerOns == 1 && t.cfs.active == none) = true := by decide +kernel
theorem test_pinReset : after .pinReset (inOutput .free .active .lineStartDue)
    (fun t => t.resetHeld && t.laneSymbol == .idle) = true := by decide +kernel
theorem test_pinResetRelease : after .pinResetRelease { State.cleared with resetHeld := true }
    (fun t => !t.resetHeld && t.mge.resetCause == .pin && t.rlt.lane.isBusy) = true := by decide +kernel
theorem test_deviceResetEvent_not_due : after .deviceResetEvent State.reset (· == State.reset) = true := by
  decide +kernel
theorem test_startSymbol : after .startSymbol State.reset (·.lrx.receiving) = true := by decide +kernel
theorem test_lock : after (.packetReceptionEnd gap) { State.reset with lrx := { State.reset.lrx with
      goodRun := 3, receiving := true } }
    (fun t => t.lrx.lock == .locked && t.rlt.notices.length == 1) = true := by decide +kernel
theorem test_line_received : after (.packetReceptionEnd lineFive)
    { locked (inOutput .locked .waitFrame .lineStartDue) with frames := [FrameRecord.opened 5] }
    (fun t => t.store == [{ tag := 5, number := 0, damaged := false, pixels := [0x010203] }]
      && t.ctb.get .widthMismatch == 1 && t.frames.map (·.stored) == [1]) = true := by decide +kernel
theorem test_silenceTimerExpiry : after .silenceTimerExpiry (locked State.reset)
    (fun t => t.lrx.lock == .search && t.ctb.get .linkLoss == 1) = true := by decide +kernel
theorem test_idleTimerExpiry : after .idleTimerExpiry { State.reset with mge.session := some { session with idleLimit := 1 } }
    (fun t => t.mge.session == none && t.rlt.notices.length == 1) = true := by decide +kernel
theorem test_laneFree : after .laneFree State.reset (fun t => t.rlt.lane == .idle) = true := by decide +kernel
/-- R164: the device reset at a link reset finds the lane busy and a reply joins behind its RESET_DONE, which still goes
first. -/
theorem test_resetDone_goes_first : after .laneFree { State.reset with rlt := { State.reset.rlt with
      notices := [{ kind := .resetDone, detail := 2, frame := 0 }], replies := [(cmd 1 []).reply (Response.plain .done)] } }
    (fun t => t.rlt.lane == .busy (.notice { kind := .resetDone, detail := 2, frame := 0 } 0) 0
      && t.rlt.replies.length == 1) = true := by decide +kernel
theorem test_lineStart : after .lineStart (inOutput .locked .waitFrame .lineStartDue)
    (fun t => t.otg.phase == .inLine ((bank .locked).lineOf .wait false (.level false))) = true := by decide +kernel
theorem test_activeDataEnd : after .activeDataEnd
    { inOutput .locked .active (.inLine (blankLine false)) with ovc.palettePending := [{ first := 2, colours := [7] }] }
    (fun t => t.paletteColour 2 == 7 && t.ovc.palettePending.isEmpty) = true := by decide +kernel
theorem test_lineEnd : after .lineEnd (inOutput .locked .active (.inLine (blankLine true)))
    (fun t => t.otg.linePosition == 1 && t.otg.phase == .lineStartDue) = true := by decide +kernel
theorem test_waitLineEnd : after .waitLineEnd
    { inOutput .locked .waitFrame (.inLine (blankLine false)) with frames := [frameFive .closed false 0] }
    (fun t => t.otg.output == .active && t.otg.frameNumber == 1 && t.lsq.bound == some 5) = true := by decide +kernel
theorem test_frameEnd : after .frameEnd (inOutput .locked .active .frameEndDue)
    (fun t => t.otg.output == .waitFrame) = true := by decide +kernel
theorem test_ping : after .ping (ready State.reset (cmd 0x01 [4, 5]))
    (fun t => t.rlt.replies.map (·.data) == [[4, 5]] && t.mge.cache.length == 1) = true := by decide +kernel
theorem test_openSession : after .openSession
    { ready State.reset (cmd 0x02 [0, 0, 9]) with mge.session := none }
    (fun t => t.mge.session == some { session with idleLimit := 9 } && t.mge.lastEpoch == some 7) = true := by
  decide +kernel
theorem test_closeSession : after .closeSession (ready State.reset (cmd 0x03 [])) (fun t => t.mge.session == none) = true := by
  decide +kernel
theorem test_readStatus : after .readStatus (ready State.reset (cmd 0x04 []))
    (fun t => t.rlt.replies.map (·.data) == [[0, 1, 0, 7, 0, 0, 0, 0, 0, 0, 0, 0, 0, 0, 0, 1, 0, 0, 0, 0, 0, 0, 0, 0, 0, 0,
      0, 0, 0xAC, 0xE1]]) = true := by decide +kernel
theorem test_setNotices : after .setNotices (ready State.reset (cmd 0x05 [0x0F, 0xFC]))
    (fun t => t.rlt.mask == 0x0FFC) = true := by decide +kernel
theorem test_deviceReset : after .deviceReset (ready State.reset (cmd 0x06 [])) (·.mge.resetPending) = true := by
  decide +kernel
theorem test_stageRaster : after .stageRaster (ready State.reset (cmd 0x10 (encodeRaster (raster .free))))
    (fun t => t.cfs.staging.raster == raster .free) = true := by decide +kernel
theorem test_stageProgram : after .stageProgram (ready State.reset (cmd 0x11 (63 :: encodeEntry { Entry.cleared with
      runLength := 2048 }))) (fun t => (t.cfs.staging.program[63]).runLength == 2048) = true := by decide +kernel
theorem test_stageProgramLength : after .stageProgramLength (ready State.reset (cmd 0x12 [64]))
    (fun t => t.cfs.staging.programLength == 64) = true := by decide +kernel
theorem test_stagePattern : after .stagePattern (ready State.reset (cmd 0x13 [15, 0, 2, 0x40]))
    (fun t => t.cfs.staging.patterns[15] == some { kind := .level, bits := [false, true] }) = true := by decide +kernel
theorem test_insertWindow : after .insertWindow (ready State.reset (cmd 0x14 (0 :: encodeWindow (window 7))))
    (fun t => t.cfs.staging.windows == [window 7]) = true := by decide +kernel
theorem test_removeWindow : after .removeWindow (ready (inOutput .free .off .idle) (cmd 0x15 [0]))
    (·.cfs.staging.windows.isEmpty) = true := by decide +kernel
theorem test_moveWindow : after .moveWindow
    (ready { State.reset with cfs.staging.windows := [window 0, window 1, window 2] } (cmd 0x16 [0, 2]))
    (fun t => t.cfs.staging.windows.map (·.id) == [1, 2, 0]) = true := by decide +kernel
theorem test_commit : after .commit (ready { State.reset with cfs.staging := bank .free } (cmd 0x17 []))
    (fun t => t.cfs.active == some (bank .free)) = true := by decide +kernel
theorem test_discard : after .discard (ready { State.reset with cfs.staging := bank .free } (cmd 0x18 []))
    (fun t => t.cfs.staging == Bank.default) = true := by decide +kernel
theorem test_readConfig : after .readConfig (ready State.reset (cmd 0x19 [1, 3, 5]))
    (fun t => t.rlt.replies.map (·.data) == [[5, 0xFF]]) = true := by decide +kernel
theorem test_writeGlyph : after .writeGlyph (ready State.reset (cmd 0x20 [0x3F, 0xFE, 8, 9]))
    (fun t => t.glyphByte 16382 == 8 && t.glyphByte 16383 == 9) = true := by decide +kernel
theorem test_writePalette : after .writePalette (ready State.reset (cmd 0x21 [255, 1, 2, 3]))
    (fun t => t.paletteColour 255 == 0x010203) = true := by decide +kernel
theorem test_startOutput : after .startOutput (ready (inOutput .free .off .idle) (cmd 0x30 []))
    (fun t => t.otg.output == .active && t.otg.frameNumber == 1 && t.ctb.get .coastedFrame == 1) = true := by
  decide +kernel
theorem test_stopOutput : after .stopOutput (ready (inOutput .free .active .lineStartDue) (cmd 0x31 []))
    (·.otg.stopPending) = true := by decide +kernel
theorem test_holdOutput : after .holdOutput (ready (inOutput .free .active .lineStartDue) (cmd 0x32 [1]))
    (fun t => t.otg.holdPending == some .frame) = true := by decide +kernel
theorem test_resumeOutput : after .resumeOutput
    (ready { inOutput .free .held .idle with otg.holdPosition := .midFrame 3 } (cmd 0x33 []))
    (fun t => t.otg.output == .active && t.otg.linePosition == 3) = true := by decide +kernel
theorem test_readCounters : after .readCounters (ready (State.reset.count .linkLoss) (cmd 0x40 [1]))
    (fun t => t.rlt.replies.map (·.data) == [List.replicate 27 0 ++ [1]] && t.ctb == Ctb.zero) = true := by
  decide +kernel
theorem test_unknownCommand : after .unknownCommand (ready State.reset (cmd 0x7F []))
    (fun t => t.rlt.replies.map (·.status) == [.unknownCommand]) = true := by decide +kernel

/-! ### Witnesses: the hypotheses of every statement, met -/

/-- A header that Table 1-2 admits, with and without a payload; `test_packet_classes` has a reception of each class. -/
theorem witness_PacketsReadBack :
    (Header.wellFormed { kind := 2, tag := 9, number := 4095, length := 6144 } = true
      ∧ (List.replicate 6144 (0 : Byte)).length = 6144)
      ∧ Header.wellFormed { kind := 1, tag := 9, number := 0, length := 0 } = true := by decide +kernel

/-- RESET_N low; and an empty queue out of reset: the lane idle, busy before and at its last byte; both timers stopped,
and just before and at their limits. -/
theorem witness_EveryCommandAnswersANextState :
    (∃ s : State, s.resetHeld = true ∧ s.pending = [])
    ∧ (∃ s : State, s.resetHeld = false ∧ s.pending = [] ∧ s.rlt.lane = .idle ∧ s.lrx.silence = none
      ∧ s.mge.session = none)
    ∧ (∀ sent, ∃ (s : State) (m : Message), s.resetHeld = false ∧ s.pending = [] ∧ s.rlt.lane = .busy m sent ∧ m.length = 13)
    ∧ (∀ k, ∃ s : State, s.resetHeld = false ∧ s.pending = [] ∧ (tickLane s).lrx.silence = some k)
    ∧ ∀ n, ∃ (s : State) (x : Session), s.resetHeld = false ∧ s.pending = []
      ∧ (tickSilence (tickLane s)).mge.session = some x ∧ 1250 * x.idleLimit.toNat = 1250 ∧ x.idleElapsed = n :=
  ⟨⟨{ State.cleared with resetHeld := true }, rfl, rfl⟩, ⟨State.cleared, rfl, rfl, rfl, rfl, rfl⟩,
    fun sent => ⟨{ State.reset with rlt.lane := .busy (.notice { kind := .coasting, detail := 0, frame := 0 } 0) sent }, _,
      rfl, rfl, rfl, rfl⟩,
    fun k => ⟨{ State.cleared with lrx := { State.cleared.lrx with lock := .locked, silence := some k } }, rfl, rfl, rfl⟩,
    fun n => ⟨{ State.cleared with mge.session := some { session with idleLimit := 1, idleElapsed := n } }, _, rfl, rfl, rfl,
      rfl, rfl⟩⟩

theorem witness_PowerOnResetGivesResetState : ∃ s : State, s.resetHeld = false := ⟨State.reset, rfl⟩

theorem witness_PinResetHoldsThenCompletes : ∃ s : State, s.resetHeld = true :=
  ⟨{ State.cleared with resetHeld := true }, rfl⟩

/-- The DONE reply to DEVICE_RESET. -/
def resetReply : Reply := (cmd 0x06 []).reply { status := .done, detail := 0, data := [] }

/-- The rows that reset the link can come in one state: the timer runs, and seven bad packets in a row have been received. -/
theorem linkResetRows (s : State) (h : s.lrx.silence.isSome = true ∧ s.lrx.receiving = true ∧ s.lrx.lock = .locked
    ∧ s.lrx.badRun = 7) :
    linkResetRow s .silenceTimerExpiry .silence ∧ linkResetRow s .startSymbol .badRun
      ∧ linkResetRow s (.packetReceptionEnd [1]) .badRun :=
  ⟨⟨rfl, h.1⟩, ⟨h.2.1, h.2.2.1, Nat.le_of_eq h.2.2.2.symm, Or.inl rfl⟩,
    ⟨h.2.1, h.2.2.1, Nat.le_of_eq h.2.2.2.symm, Or.inr ⟨[1], rfl, by decide +kernel⟩⟩⟩

/-- The reply to DEVICE_RESET at the end of its transmission, and queued when each of the rows resets the link. -/
theorem witness_DeviceResetAtEndOfReply :
    (∃ s : State, ∃ sent, s.resetHeld = false ∧ s.mge.resetPending = true
      ∧ s.rlt.lane = .busy (.reply resetReply) sent ∧ resetReply.code = 0x06 ∧ resetReply.status = .done)
    ∧ ∃ s : State, ∃ m sent, s.resetHeld = false ∧ s.mge.resetPending = true
      ∧ (linkResetRow s .silenceTimerExpiry .silence ∧ linkResetRow s .startSymbol .badRun
        ∧ linkResetRow s (.packetReceptionEnd [1]) .badRun)
      ∧ resetReply ∈ s.rlt.replies ∧ s.rlt.lane = .busy m sent :=
  ⟨⟨{ State.cleared with mge.resetPending := true, rlt.lane := .busy (.reply resetReply) 13 }, 13,
      rfl, rfl, rfl, rfl, rfl⟩,
    ⟨{ locked State.reset with
        lrx := { (locked State.reset).lrx with badRun := 7 }, mge.resetPending := true, rlt.replies := [resetReply],
        rlt.lane := State.reset.rlt.lane }, _, _, rfl, rfl, linkResetRows _ ⟨rfl, rfl, rfl, rfl⟩,
      List.mem_singleton.mpr rfl, rfl⟩⟩

/-- A reception in SEARCH: a bad packet, and good headers with runs of 2 and 3. -/
theorem witness_ReceptionInSearch :
    (∃ s : State, s.resetHeld = false ∧ s.lrx.receiving = true ∧ s.lrx.lock = .search ∧ s.lrx.goodRun = 2
      ∧ s.lrx.goodRun < 3)
    ∧ (∃ s : State, s.resetHeld = false ∧ s.lrx.receiving = true ∧ s.lrx.lock = .search ∧ s.lrx.goodRun = 3)
    ∧ (classify []).goodHeader = false ∧ (classify gap).goodHeader = true :=
  ⟨⟨{ State.reset with lrx := { State.reset.lrx with goodRun := 2, receiving := true } }, rfl, rfl, rfl, rfl,
      Nat.lt_succ_self 2⟩,
    ⟨{ State.reset with lrx := { State.reset.lrx with goodRun := 3, receiving := true } }, rfl, rfl, rfl, rfl⟩,
    by decide +kernel, by decide +kernel⟩

theorem witness_GoodHeaderIsRoutedInLocked :
    (∃ s : State, s.resetHeld = false ∧ s.lrx.receiving = true ∧ s.lrx.lock = .locked)
    ∧ ([openFive, lineFive, gap, closeFive, pingPacket, pingFailed].map fun b => ((headerOf b).kind, classify b))
      = [(1, .good), (2, .good), (3, .good), (4, .good), (5, .good), (5, .payloadFailed)] :=
  ⟨⟨locked State.reset, rfl, rfl, rfl⟩, by decide +kernel⟩

theorem witness_BadPacketsAndStartSymbols :
    (classify (gap.take 7)).goodHeader = false
    ∧ (∃ s : State, s.resetHeld = false ∧ s.lrx.receiving = true ∧ s.lrx.lock = .locked ∧ s.lrx.badRun = 6
      ∧ s.lrx.badRun < 7)
    ∧ (∃ s : State, s.resetHeld = false ∧ s.lrx.receiving = true ∧ s.lrx.lock = .locked ∧ s.lrx.badRun = 7)
    ∧ (∃ s : State, s.resetHeld = false ∧ s.lrx.receiving = false ∧ s.lrx.lock = .search)
    ∧ (∃ s : State, s.resetHeld = false ∧ s.lrx.receiving = false ∧ s.lrx.lock = .locked)
    ∧ (∃ s : State, s.resetHeld = false ∧ s.lrx.receiving = true ∧ s.lrx.lock = .search) :=
  ⟨by decide +kernel, ⟨{ locked State.reset with lrx.badRun := 6 }, rfl, rfl, rfl, rfl, Nat.lt_succ_self 6⟩,
    ⟨{ locked State.reset with lrx.badRun := 7 }, rfl, rfl, rfl, rfl⟩, ⟨State.reset, rfl, rfl, rfl⟩,
    ⟨{ locked State.reset with lrx.receiving := false }, rfl, rfl, rfl⟩,
    ⟨{ State.reset with lrx.receiving := true }, rfl, rfl, rfl⟩⟩

/-- Each row that resets the link: in session with and without a pending commit; with no device reset pending, and with one
whose reply is not in the queue. -/
theorem witness_SilenceExpiryResetsLink :
    ∃ s : Option Session → Option Byte → Bool → State, ∀ x tag p, (s x tag p).resetHeld = false
      ∧ (linkResetRow (s x tag p) .silenceTimerExpiry .silence ∧ linkResetRow (s x tag p) .startSymbol .badRun
        ∧ linkResetRow (s x tag p) (.packetReceptionEnd [1]) .badRun)
      ∧ (s x tag p).mge.session = x ∧ (s x tag p).cfs.commitPending = tag ∧ (s x tag p).mge.resetPending = p
      ∧ (s x tag p).rlt.replies = [] :=
  ⟨fun x tag p => { locked State.reset with
      lrx := { (locked State.reset).lrx with badRun := 7 }
      mge := { State.reset.mge with session := x, resetPending := p }
      cfs.commitPending := tag },
    fun _ _ _ => ⟨rfl, linkResetRows _ ⟨rfl, rfl, rfl, rfl⟩, rfl, rfl, rfl, rfl⟩⟩

/-- Frame marks: OFF; a tag present, OPEN_RECEIVING and CLOSED; lists of 2 and 3 records without the tag. -/
theorem witness_FrameMarks :
    State.reset.otg.output = .off
    ∧ ∃ s2 s3 : State, s2.otg.output ≠ .off ∧ s3.otg.output ≠ .off
      ∧ s2.frames.length = 2 ∧ s2.frames.length < 3 ∧ (∀ r ∈ s2.frames, r.tag ≠ 9)
      ∧ s2.frames.find? (·.tag == 5) = some (frameFive .openReceiving true 0)
      ∧ s2.frames.find? (·.tag == 6) = some { frameFive .closed false 0 with tag := 6 }
      ∧ s3.frames.length = 3 ∧ (∀ r ∈ s3.frames, r.tag ≠ 9)
      ∧ s3.frames.find? (fun r => !r.bound) = some { frameFive .closed false 0 with tag := 6 } := by
  refine ⟨rfl,
    { inOutput .locked .active .lineStartDue with
      frames := [frameFive .openReceiving true 0, { frameFive .closed false 0 with tag := 6 }] },
    { inOutput .locked .active .lineStartDue with
      frames := [frameFive .openReceiving true 0, { frameFive .closed false 0 with tag := 6 }, FrameRecord.opened 7] },
    ?_⟩
  decide +kernel

/-- Line arrivals: OFF; an unknown tag; a closed frame; a number at and above the highest; stores of 7 and 8 lines. -/
theorem witness_LineArrivalChecks :
    State.reset.otg.output = .off
    ∧ ∃ s7 s8 : State, s7.otg.output ≠ .off ∧ s8.otg.output ≠ .off
      ∧ (∀ r ∈ s7.frames, r.tag ≠ 9)
      ∧ s7.frames.find? (·.tag == 5) = some (frameFive .openReceiving false 7)
      ∧ s8.frames.find? (·.tag == 5) = some (frameFive .openReceiving false 8)
      ∧ s7.frames.find? (·.tag == 6) = some { frameFive .closed false 0 with tag := 6 }
      ∧ (frameFive .openReceiving false 7).highest = some 6
      ∧ s7.store.length = 7 ∧ s7.store.length < 8 ∧ s8.store.length = 8 := by
  refine ⟨rfl,
    { inOutput .locked .active .lineStartDue with
      frames := [frameFive .openReceiving false 7, { frameFive .closed false 0 with tag := 6 }]
      store := (List.range 7).map (line5 · false) },
    { inOutput .locked .active .lineStartDue with
      frames := [frameFive .openReceiving false 8]
      store := (List.range 8).map (line5 · false) }, ?_⟩
  decide +kernel

theorem witness_CommandArrivals :
    (∃ s : State, s.mge.commands.length = 15 ∧ s.mge.commands.length < 16 ∧ s.mge.session = none)
    ∧ (∃ s : State, s.mge.commands.length = 15 ∧ s.mge.commands.length < 16
      ∧ s.mge.session = some session ∧ session.epoch = (cmd 1 []).epoch)
    ∧ ∃ s : State, s.mge.commands.length = 16 :=
  ⟨⟨{ State.reset with mge.commands := List.replicate 15 (cmd 1 []) }, rfl, Nat.lt_succ_self 15, rfl⟩,
    ⟨{ State.reset with mge.commands := List.replicate 15 (cmd 1 []), mge.session := some session }, rfl,
      Nat.lt_succ_self 15, rfl, by decide +kernel⟩,
    ⟨{ State.reset with mge.commands := List.replicate 16 (cmd 1 []) }, rfl⟩⟩

/-- Two values of the LFSR that are not 0. -/
theorem witness_LfsrAdvance : ∃ x y : Word16, x ≠ 0 ∧ lfsrAdvance x = lfsrAdvance y := ⟨0xACE1, 0xACE1, by decide, rfl⟩

/-- The last active line of a bank that passes validation. -/
theorem witness_EveryActiveLineHasARun : ∃ b : Bank, b.validate = none ∧ b.raster.height = 2 ∧ 1 < b.raster.height :=
  ⟨bank .locked, by decide +kernel, rfl, Nat.lt_succ_self 1⟩

theorem witness_ThinningUsesFixedNumbers : ∃ e : Entry, ∃ n, e.phaseMode = .zero ∧ 2 ≤ e.thinDivisor ∧ 1 ≤ n :=
  ⟨{ Entry.cleared with thinDivisor := 2 }, 1, rfl, Nat.le_refl 2, Nat.le_refl 1⟩

/-- A bound frame whose oldest line is below, at (whole and damaged) and above the expected number 1; and no line. -/
theorem witness_ObtainOutcomes :
    ∃ s : Nat → Bool → State,
      (∀ n d, (s n d).lsq.bound = some 5 ∧ (s n d).store.find? (·.tag == 5) = some (line5 n d)
        ∧ (s n d).lsq.expected = 1 ∧ (line5 n d).number = n ∧ (line5 n d).damaged = d)
      ∧ (State.cleared.lsq.bound = none) ∧ State.cleared.lsq.underrunNoticed = false
      ∧ (∃ t : State, t.lsq.bound = some 5 ∧ t.store = [] ∧ t.lsq.underrunNoticed = true ∧ t.lsq.lastShown = some [1])
      ∧ Raster.default.missingPolicy = .repeatLast ∧ Raster.default.damagedPolicy = .showLine :=
  ⟨fun n d => { State.cleared with lsq := { State.cleared.lsq with bound := some 5, expected := 1 }, store := [line5 n d] },
    fun _ _ => ⟨rfl, rfl, rfl, rfl, rfl⟩, rfl, rfl,
    ⟨{ State.cleared with lsq := { State.cleared.lsq with bound := some 5, underrunNoticed := true,
                                                          lastShown := some [1] } }, rfl, rfl, rfl, rfl⟩, rfl, rfl⟩

/-- A SHOW_THIN entry of divisor 2 with the cadence counter at 0 and at its last value; and a number to drop with no frame
bound, with no line of the bound frame, and with its oldest line below, at and above the number. -/
theorem witness_ActionsOfALine :
    (∃ (e : Entry) (s0 s1 : State), e.action = .showThin ∧ s0.lsq.cadence ≠ e.thinDivisor - 1
      ∧ s1.lsq.cadence = e.thinDivisor - 1)
    ∧ State.cleared.lsq.bound = none
    ∧ (∃ s : State, s.lsq.bound = some 5 ∧ ∀ l ∈ s.store, l.tag ≠ 5)
    ∧ ∃ s : Nat → State, ∀ n, (s n).lsq.bound = some 5 ∧ (s n).store.find? (·.tag == 5) = some (line5 n false)
      ∧ (line5 n false).number = n ∧ (s n).lsq.expected = 1 :=
  ⟨⟨{ Entry.cleared with action := .showThin, thinDivisor := 2 }, State.cleared,
      { State.cleared with lsq.cadence := 1 }, rfl, by decide, rfl⟩, rfl,
    ⟨{ State.cleared with lsq.bound := some 5 }, rfl, by simp [State.cleared]⟩,
    ⟨fun n => { State.cleared with
        lsq := { State.cleared.lsq with bound := some 5, expected := 1 }, store := [line5 n false] },
      fun _ => ⟨rfl, rfl, rfl, rfl⟩⟩⟩

/-- The first line above the active area and the first one below it; a wait line; a blank-line clock that is QUIET, and one
that names a defined slot. -/
theorem witness_LineStartOutsideTheActiveArea :
    (∃ s : State, s.resetHeld = false ∧ s.otg.phase = .lineStartDue ∧ s.cfs.active = some (bank .locked)
      ∧ s.otg.output = .waitFrame)
    ∧ (∀ n : Fin 2, ∃ s : State, s.resetHeld = false ∧ s.otg.phase = .lineStartDue ∧ s.cfs.active = some (bank .locked)
      ∧ s.otg.output = .active ∧ s.otg.linePosition = 3 * n.val
      ∧ (s.otg.linePosition < (bank .locked).raster.vStart
        ∨ (bank .locked).raster.vStart + (bank .locked).raster.height ≤ s.otg.linePosition))
    ∧ (bank .locked).raster.blankClock = none
    ∧ ∃ (s : State) (b : Bank), s.resetHeld = false ∧ s.otg.phase = .lineStartDue ∧ s.cfs.active = some b
      ∧ s.otg.output = .waitFrame ∧ b.raster.blankClock = some 0
      ∧ b.patterns.toList.getD 0 none = some { kind := .gate, bits := [true] } :=
  ⟨⟨inOutput .locked .waitFrame .lineStartDue, rfl, rfl, rfl, rfl⟩, fun n =>
    ⟨{ inOutput .locked .active .lineStartDue with otg.linePosition := 3 * n.val }, rfl, rfl, rfl, rfl, rfl,
      match n with
      | 0 => Or.inl (by decide)
      | 1 => Or.inr (by decide)⟩, rfl,
    ⟨{ inOutput .locked .waitFrame .lineStartDue with cfs.active := some { bank .locked with
        raster := { raster .locked with blankClock := some 0 } } }, _, rfl, rfl, rfl, rfl, rfl, by decide +kernel⟩⟩

/-- The last active line. -/
theorem witness_LineStartOfAnActiveLine :
    ∃ (s : State) (e : Entry), s.resetHeld = false ∧ s.otg.phase = .lineStartDue ∧ s.otg.output = .active
      ∧ s.cfs.active = some (bank .locked) ∧ s.otg.linePosition = (bank .locked).raster.vStart + 1
      ∧ 1 < (bank .locked).raster.height ∧ findRun (bank .locked).entriesInForce 1 = some (e, 1)
      ∧ (bank .locked).patterns.toList.getD (if 1 % 2 = 0 then e.patternA else e.patternB.getD e.patternA) none
        = some { kind := .gate, bits := [true] } :=
  ⟨{ inOutput .locked .active .lineStartDue with otg.linePosition := 2 },
    { Entry.cleared with runLength := 2, action := .showLine, windowMask := 1 }, rfl, rfl, rfl, rfl, rfl,
    Nat.lt_succ_self 1, by decide +kernel, by decide +kernel⟩

theorem witness_DataEndAndLineEnd_dataEnd : ∃ (s : State) (l : Line), s.resetHeld = false ∧ s.otg.output = .active
    ∧ s.otg.phase = .inLine l ∧ l.dataEnded = false :=
  ⟨inOutput .locked .active (.inLine (blankLine false)), _, rfl, rfl, rfl, rfl⟩

/-- Two pending items that overlap: an entry both name, one the older alone names, and one that neither names. -/
theorem witness_DataEndAndLineEnd_palette : ∃ (s : State) (x y : PaletteItem),
    (∃ t : State, t.ovc = s.ovc.applyPalette ∧ t.powerOns = s.powerOns) ∧ s.ovc.palettePending = [] ++ x :: [y] ∧ s.ovc.palettePending = [x] ++ y :: []
    ∧ 0 < x.colours.length ∧ 0 < y.colours.length ∧ y.first = x.first + 1
    ∧ (∀ z ∈ [y], x.first + 0 < z.first ∨ z.first + z.colours.length ≤ x.first + 0)
    ∧ ∀ z ∈ s.ovc.palettePending, 9 < z.first ∨ z.first + z.colours.length ≤ 9 :=
  ⟨{ State.reset with ovc.palettePending := [⟨4, [1, 2]⟩, ⟨5, [3]⟩] }, ⟨4, [1, 2]⟩, ⟨5, [3]⟩,
    ⟨{ State.reset with ovc := Ovc.applyPalette _ }, rfl, rfl⟩, rfl, rfl, by decide, by decide, rfl, by decide, by decide⟩

/-- The last line of a frame, and the line before it with and without a LINE hold pending. -/
theorem witness_DataEndAndLineEnd :
    ∃ s : Nat → Option HoldKind → State, ∀ n k, (s n k).resetHeld = false ∧ (s n k).otg.output = .active
      ∧ (s n k).otg.phase = .inLine (blankLine true) ∧ (blankLine true).dataEnded = true
      ∧ (s n k).cfs.active = some (bank .locked) ∧ (s n k).otg.linePosition = n ∧ (s n k).otg.holdPending = k
      ∧ (bank .locked).raster.frameTotal = 4 :=
  ⟨fun n k => { inOutput .locked .active (.inLine (blankLine true)) with
      otg.linePosition := n, otg.holdPending := k }, fun _ _ => ⟨rfl, rfl, rfl, rfl, rfl, rfl, rfl, rfl⟩⟩

/-- FREE; LOCKED with a ready frame; LOCKED with none, one wait line below the coast limit and at it. -/
theorem witness_WaitLineEndDecision :
    ∃ s : SyncMode → List FrameRecord → Nat → State, (∀ m f n, (s m f n).resetHeld = false
      ∧ (s m f n).otg.output = .waitFrame ∧ (s m f n).otg.phase = .inLine (blankLine false)
      ∧ (s m f n).cfs.active = some (bank m) ∧ (s m f n).frames = f ∧ (s m f n).otg.waitCount = n)
    ∧ [frameFive .openReceiving false 1].find? (fun r => !r.bound && (r.state == .closed || decide (1 ≤ r.stored)))
      = some (frameFive .openReceiving false 1)
    ∧ (bank .locked).raster.prime = 1 ∧ (bank .locked).raster.coastLimit = 2
    ∧ (∀ r ∈ [frameFive .openReceiving false 0], r.bound = true ∨ (r.state = .openReceiving ∧ r.stored < 1)) :=
  ⟨fun m f n => { inOutput m .waitFrame (.inLine (blankLine false)) with frames := f, otg.waitCount := n },
    fun _ _ _ => ⟨rfl, rfl, rfl, rfl, rfl, rfl⟩, by decide +kernel, rfl, rfl, by decide +kernel⟩

/-- Every record bound; an unbound one; and a list whose oldest record is not ready, the next closed, or at a prime of 1. -/
theorem witness_FrameStarts :
    (∃ s t : State, t = s.frameStartFree ∧ s.frames = [frameFive .closed true 0] ∧ ∀ r ∈ s.frames, r.bound = true)
    ∧ (∃ s : State, s.frames.find? (fun r => !r.bound) = some (frameFive .closed false 0))
    ∧ ∀ r ∈ [frameFive .closed false 0, frameFive .openReceiving false 1], ∃ s : State,
      s.frames = [FrameRecord.opened 4] ++ r :: [FrameRecord.opened 6] ∧ (s.frames.map (·.tag)).Nodup
      ∧ (∀ x ∈ [FrameRecord.opened 4], x.bound = false ∧ x.state = .openReceiving ∧ x.stored < 1)
      ∧ r.bound = false ∧ (r.state = .closed ∨ 1 ≤ r.stored) := by
  refine ⟨⟨{ State.cleared with frames := [frameFive .closed true 0] }, _, rfl, rfl, by decide +kernel⟩,
    ⟨{ State.cleared with frames := [frameFive .closed false 0] }, by decide +kernel⟩, fun r hr =>
    ⟨{ State.cleared with frames := [FrameRecord.opened 4, r, FrameRecord.opened 6] }, rfl, ?_⟩⟩
  revert r
  decide +kernel

/-- A frame end with a stop, with a hold, and with neither, under LOCKED and under FREE. -/
theorem witness_FrameEndSteps :
    ∃ s : SyncMode → Bool → Option HoldKind → State, (∀ m st k, (s m st k).resetHeld = false
      ∧ (s m st k).otg.output = .active ∧ (s m st k).otg.phase = .frameEndDue ∧ (s m st k).otg.stopPending = st
      ∧ (s m st k).otg.holdPending = k) ∧ ∀ m, ((s m false none).release.applyPendingCommit).syncMode = m :=
  ⟨fun m st k => { inOutput m .active .frameEndDue with otg.stopPending := st, otg.holdPending := k },
    fun _ _ _ => ⟨rfl, rfl, rfl, rfl, rfl⟩, fun _ => rfl⟩

theorem witness_ReleaseCommitAndEntryToOff :
    (∃ s : State, s.lsq.bound = none ∧ s.cfs.commitPending = none)
    ∧ ∃ s : State, s.lsq.bound = some 5 ∧ s.cfs.commitPending = some 9 :=
  ⟨⟨State.cleared, rfl, rfl⟩, ⟨{ State.cleared with lsq.bound := some 5, cfs.commitPending := some 9 }, rfl, rfl⟩⟩

/-- Each output command can be taken in each output state, hold and stop pending or not, at each hold position. -/
theorem witness_OutputCommands (code : Byte) (args : List Byte) :
    ∃ s : SyncMode → OutputState → Option HoldKind → Bool → HoldPosition → State, ∀ m o k st p,
      Taken (s m o k st p) (cmd code args) code args ∧ (s m o k st p).otg.output = o ∧ (s m o k st p).otg.holdPending = k
        ∧ (s m o k st p).otg.stopPending = st ∧ (s m o k st p).otg.holdPosition = p
        ∧ (s m o k st p).cfs.active = some (bank m) ∧ (bank m).raster.syncMode = m :=
  ⟨fun m o k st p => ready { inOutput m o .idle with otg.holdPending := k, otg.stopPending := st, otg.holdPosition := p }
      (cmd code args), fun _ _ _ _ _ => ⟨taken _ _ _, rfl, rfl, rfl, rfl, rfl, rfl⟩⟩

theorem witness_StartOutputOutcomes : ∃ (s : State) (c : Command), Taken s c 0x30 [] ∧ s.cfs.active = none :=
  ⟨_, _, taken State.cleared 0x30 [], rfl⟩

/-- HOLD_OUTPUT of each kind. -/
theorem witness_HoldOutputOutcomes : ∀ k : HoldKind, ∃ n : Byte, (k = .line ∧ n = 0) ∨ (k = .frame ∧ n = 1)
  | .line => ⟨0, Or.inl ⟨rfl, rfl⟩⟩
  | .frame => ⟨1, Or.inr ⟨rfl, rfl⟩⟩

/-- The pins in reset; in each phase without a line, with an empty and a full active bank; on a blank line; and at the first
active pixel of an active line, its clock a level or a pattern. The base pixel at and beyond the end of a line; a candidate. -/
theorem witness_PanelPins :
    (∃ s : State, s.resetHeld = true)
    ∧ (∀ ph ∈ [Phase.idle, .lineStartDue, .frameEndDue], ∀ b : Option Bank, ∃ s : State, s.resetHeld = false
      ∧ s.otg.phase = ph ∧ (∀ l, s.otg.phase ≠ .inLine l) ∧ s.cfs.active = b)
    ∧ (∃ s : State, s.resetHeld = false ∧ s.otg.phase = .inLine (blankLine false))
    ∧ (∀ (pic : Picture) (clock : ClockRegime), ∃ (s : State) (l : Line), s.resetHeld = false ∧ s.otg.phase = .inLine l
      ∧ l.kind = .active pic ∧ l.clock = clock ∧ l.hStart = 1 ∧ 1 < l.hStart + l.width)
    ∧ [true, false][3 % [true, false].length]? = some false
    ∧ (∃ (pic : Picture) (k : Candidate), pic.base = .line [7] ∧ pic.candidates = [k] ∧ k.window.depth ∈ [1, 2, 4, 8]) := by
  refine ⟨⟨{ State.cleared with resetHeld := true }, rfl⟩, fun ph hph b =>
      ⟨{ State.cleared with cfs.active := b, otg.phase := ph }, rfl, rfl, ?_, rfl⟩,
    ⟨inOutput .locked .active (.inLine (blankLine false)), rfl, rfl⟩,
    fun pic clock => ⟨inOutput .locked .active (.inLine ((bank .locked).lineOf (.active pic) false clock)), _, rfl, rfl, rfl,
      rfl, rfl, (by decide : 1 < 1 + 4)⟩, rfl,
    ⟨{ base := .line [7], background := 0, candidates := [{ window := window 0, row := [0x80] }] }, _, rfl, rfl,
      by decide⟩⟩
  rintro l rfl
  simp at hph

/-- A one-column window at column 0: pixel 0 lies in it and pixel 1 does not; its glyph index is the key and is not. -/
theorem witness_WindowOverPixel :
    ∃ k : Candidate, k.window.x ≤ 0 ∧ 0 < k.window.x + k.window.width ∧ k.window.x + k.window.width ≤ 1
      ∧ k.window.key = some (k.glyphIndex 0) ∧ ({ k with row := [0] } : Candidate).glyphIndex 0 ≠ k.glyphIndex 0 :=
  ⟨{ window := { window 0 with key := some 1 }, row := [0x80] }, by decide +kernel⟩

/-- Steps that change what they may: a palette entry at a data end, the frame number at a frame start, the active bank at
a frame end that applies a commit, and all of it at a pin reset. -/
theorem witness_ChangesOnlyAtTheirEvents :
    (∃ s t : State, step s = .next t ∧ s.otg.output = .active ∧ t.otg.output = .active ∧ t.ovc.palette ≠ s.ovc.palette)
    ∧ (∃ s t : State, step s = .next t ∧ t.otg.frameNumber ≠ s.otg.frameNumber)
    ∧ (∃ s t : State, step s = .next t ∧ s.otg.output = .active ∧ t.cfs.active ≠ s.cfs.active ∧ t.otg.output = .waitFrame)
    ∧ ∃ s t : State, step s = .next t ∧ s.otg.output = .active ∧ t.cfs.active ≠ s.cfs.active
      ∧ t.otg.frameNumber ≠ s.otg.frameNumber := by
  refine ⟨⟨{ inOutput .locked .active (.inLine (blankLine false)) with
      ovc.palettePending := [{ first := 2, colours := [7] }], pending := [.activeDataEnd] }, _, rfl, rfl, rfl,
      by decide +kernel⟩,
    ⟨{ inOutput .free .waitFrame (.inLine (blankLine false)) with pending := [.waitLineEnd] }, _, rfl, by decide +kernel⟩,
    ⟨{ inOutput .locked .active .frameEndDue with
      cfs := { staging := bank .locked, active := some (bank .free), commitPending := some 3 }, pending := [.frameEnd] },
      _, rfl, rfl, by decide +kernel, by decide +kernel⟩,
    ⟨{ inOutput .locked .active .lineStartDue with otg.frameNumber := 9, otg.output := .active, pending := [.pinReset] }, _,
      rfl, rfl, by decide +kernel, by decide +kernel⟩⟩

/-- Every code that a row takes can stand at the head of the queue, in session with a fresh tag. -/
theorem witness_taken (code : Byte) (args : List Byte) : ∃ (s : State) (c : Command), Taken s c code args :=
  ⟨_, _, taken State.reset code args⟩

/-- A command that reaches its execution with no session open. -/
theorem witness_reaches (code : Byte) (args : List Byte) : ∃ (s : State) (c : Command),
    AtHead s c code ∧ reaches s c ∧ c.args = args ∧ s.mge.session = none ∧ s.mge.lastEpoch ≠ some c.epoch :=
  ⟨{ ready State.reset (cmd code args) with mge.session := none, mge.commands := [cmd code args] }, cmd code args,
    ⟨rfl, rfl, rfl, Nat.zero_lt_succ 15, rfl⟩, Or.inl rfl, rfl, rfl, by simp [ready, State.reset, State.cleared]⟩

/-- READ_STATUS in session and with none open; a code that no row knows. -/
theorem witness_StatusAndUnknown :
    (∃ (s : State) (c : Command), AtHead s c 0x04 ∧ reaches s c ∧ c.args = [] ∧ s.mge.session = some session)
    ∧ (∃ (s : State) (c : Command), AtHead s c 0x04 ∧ reaches s c ∧ c.args = [] ∧ s.mge.session = none)
    ∧ (0x7F : Byte) ∉ knownCodes ∧ ∃ (s : State) (c : Command), AtHead s c 0x7F ∧ InSession s c :=
  ⟨⟨_, _, (taken State.reset 0x04 []).1, Or.inr rfl, rfl, rfl⟩,
    (witness_reaches 0x04 []).imp fun _ h => h.imp fun _ h => ⟨h.1, h.2.1, h.2.2.1, h.2.2.2.1⟩, by decide,
    ⟨_, _, (taken State.reset 0x7F []).1, (taken State.reset 0x7F []).2.1⟩⟩

/-- OPEN_SESSION: last epoch equal; a session of the same and of another epoch; take-over byte 0 and 1. -/
theorem witness_OpenSessionOutcomes :
    (∃ (s : State) (c : Command), AtHead s c 0x02 ∧ reaches s c ∧ c.args = [1, 0, 0] ∧ s.mge.session = none
      ∧ s.mge.lastEpoch = some c.epoch)
    ∧ (∃ (s : State) (c : Command) (x : Session), AtHead s c 0x02 ∧ reaches s c ∧ c.args = [1, 0, 0]
      ∧ s.mge.session = some x ∧ x.epoch = c.epoch)
    ∧ ∃ (s : State) (c : Command) (x : Session), AtHead s c 0x02 ∧ reaches s c ∧ c.args = [1, 0, 0]
      ∧ s.mge.session = some x ∧ x.epoch ≠ c.epoch :=
  ⟨⟨{ ready State.reset (cmd 2 [1, 0, 0]) with
        mge := { State.reset.mge with commands := [cmd 2 [1, 0, 0]], lastEpoch := some 7 } }, cmd 2 [1, 0, 0],
      ⟨rfl, rfl, rfl, Nat.zero_lt_succ 15, rfl⟩, Or.inl rfl, rfl, rfl, by decide +kernel⟩,
    ⟨ready State.reset (cmd 2 [1, 0, 0]), cmd 2 [1, 0, 0], session, ⟨rfl, rfl, rfl, Nat.zero_lt_succ 15, rfl⟩, Or.inr rfl,
      rfl, rfl, by decide +kernel⟩,
    ⟨{ ready State.reset (cmd 2 [1, 0, 0]) with mge.session := some { session with epoch := 8 }, mge.commands := [cmd 2 [1, 0, 0]] },
      cmd 2 [1, 0, 0], { session with epoch := 8 }, ⟨rfl, rfl, rfl, Nat.zero_lt_succ 15, rfl⟩, Or.inr rfl, rfl, rfl,
      by decide +kernel⟩⟩

theorem witness_SessionCloses : ∃ (s : State) (x : Session), s.resetHeld = false ∧ s.mge.session = some x ∧ x.idleLimit ≠ 0 :=
  ⟨{ State.reset with mge.session := some { session with idleLimit := 1 } }, _, rfl, rfl, by decide⟩

/-- A mask of every bit that has a notice, and one with bit 12. -/
theorem witness_SetNoticesAndDeviceReset :
    ((0x0F : Byte) ++ (0xFC : Byte) : Word16) &&& 0xF003 = 0 ∧ ((0x10 : Byte) ++ (0 : Byte) : Word16) &&& 0xF003 ≠ 0 := by
  decide

/-- A command whose tag is cached, with an equal and with another fingerprint; one out of epoch with no session and with
another. -/
theorem witness_ReplayConflictAndEpochRefusals :
    commandRow .commit 0x17 false ∧ commandRow .unknownCommand 0x7F false
    ∧ (∀ fp : Word32, ∃ (s : State) (c : Command) (r : CacheRecord), AtHead s c 0x17 ∧ s.inEpoch c = true
      ∧ s.cached? c.tag = some r ∧ r.fingerprint = fp ∧ c.fingerprint = 0)
    ∧ ∃ (s : State) (c : Command) (x : Session), AtHead s c 0x17 ∧ s.mge.session = some x ∧ x.epoch ≠ c.epoch :=
  ⟨Or.inl (by simp), Or.inr ⟨rfl, by decide, rfl⟩,
    fun fp => ⟨{ ready State.reset (cmd 0x17 []) with
        mge := { State.reset.mge with
          commands := [cmd 0x17 []]
          session := some session
          cache := [{ tag := 1, fingerprint := fp, reply := resetReply }] } }, cmd 0x17 [],
        { tag := 1, fingerprint := fp, reply := resetReply }, ⟨rfl, rfl, rfl, Nat.zero_lt_succ 15, rfl⟩,
        by simp [State.inEpoch, session, Command.epoch, cmd, wordAt2, byteAt], rfl, rfl, rfl⟩,
    ⟨{ ready State.reset (cmd 0x17 []) with mge.session := some { session with epoch := 8 }, mge.commands := [cmd 0x17 []] },
      cmd 0x17 [], { session with epoch := 8 }, ⟨rfl, rfl, rfl, Nat.zero_lt_succ 15, rfl⟩, rfl, by decide +kernel⟩⟩

/-- Caches of 3 and of 4 records, in epoch; and a command out of epoch. -/
theorem witness_AnswerQueuesAndCaches :
    ∃ s : Nat → State, (∀ n, (s n).inEpoch (cmd 1 []) = true ∧ (s n).mge.cache.length = n)
      ∧ State.reset.inEpoch (cmd 1 []) = false :=
  ⟨fun n => { ready State.reset (cmd 1 []) with
      mge := { State.reset.mge with
        session := some session
        cache := List.replicate n { tag := 1, fingerprint := 0, reply := resetReply } } },
    fun n => ⟨by simp [State.inEpoch, session, Command.epoch, cmd, wordAt2, byteAt], by simp⟩, rfl⟩

/-- Arguments at the ends of their encodings, no commit pending. -/
theorem witness_StagingWritesChangeStaging :
    (∃ s c, Taken s c 0x10 (encodeRaster (raster .free)) ∧ s.cfs.commitPending = none)
    ∧ decodeRaster (encodeRaster (raster .free)) = some (raster .free)
    ∧ (∃ s c, Taken s c 0x11 (56 :: (List.replicate 8 Entry.cleared).flatMap encodeEntry) ∧ s.cfs.commitPending = none)
    ∧ decodeEntry (encodeEntry Entry.cleared) = some Entry.cleared ∧ (56 : Byte).toNat + 8 ≤ 64
    ∧ (∃ s c, Taken s c 0x12 [64] ∧ s.cfs.commitPending = none)
    ∧ (∃ s c, Taken s c 0x13 [15, 0xFF] ∧ s.cfs.commitPending = none) ∧ decodePattern [15, 0xFF] = some (15, none) :=
  ⟨⟨_, _, taken State.reset _ _, rfl⟩, by decide +kernel, ⟨_, _, taken State.reset _ _, rfl⟩, by decide +kernel, by decide,
    ⟨_, _, taken State.reset _ _, rfl⟩, ⟨_, _, taken State.reset _ _, rfl⟩, by decide +kernel⟩

/-- A list of 7 windows with a fresh id at its end, and with a present one; the last position to move to. -/
theorem witness_WindowListOperations :
    ∃ s : State, s.cfs.commitPending = none
      ∧ (∃ c, Taken s c 0x14 (7 :: encodeWindow (window 7))) ∧ decodeWindow (encodeWindow (window 7)) = some (window 7)
      ∧ s.cfs.staging.windows.length = 7 ∧ (∀ x ∈ s.cfs.staging.windows, x.id ≠ 7)
      ∧ (∃ x ∈ s.cfs.staging.windows, x.id = 6)
      ∧ s.cfs.staging.windows.find? (·.id == 6) = some (window 6) ∧ (6 : Byte).toNat < s.cfs.staging.windows.length :=
  ⟨ready { State.reset with cfs.staging.windows := (List.range 7).map window } (cmd 0x14 (7 :: encodeWindow (window 7))),
    rfl, ⟨_, taken _ _ _⟩, by decide +kernel, by decide +kernel, by decide +kernel, by decide +kernel, by decide +kernel,
    by decide +kernel⟩

/-- Arguments just outside and just inside their encodings, a commit pending or not, lists of 7 and 8 windows. -/
theorem witness_StagingRefusals :
    ¬rasterEncoded [] ∧ rasterEncoded (List.replicate 25 0 ++ [0xFF])
    ∧ entryEncoded (56 :: [8, 0, 3, 255, 1, 15, 15, 1, 255]) 1 ∧ ¬entryEncoded (56 :: [8, 1, 3, 0, 0, 0, 0, 0, 0]) 1
    ∧ patternEncoded (15 :: 1 :: 64 :: List.replicate 8 0) ∧ patternEncoded [0, 0xFF] ∧ ¬patternEncoded [16, 0xFF]
    ∧ windowEncoded (encodeWindow (window 6)) ∧ ¬windowEncoded (encodeWindow (window 8)) ∧ (7 : Byte).toNat ≤ 7
    ∧ (∀ code args, ∃ s c, Taken s c code args ∧ s.cfs.commitPending.isSome = true)
    ∧ ∀ n code args, ∃ s c, Taken s c code args ∧ s.cfs.commitPending = none ∧ s.cfs.staging.windows.length = n := by
  refine ⟨?_, ?_, ?_, ?_, ?_, ?_, ?_, ?_, ?_, by decide,
    fun code args => ⟨ready { State.reset with cfs.commitPending := some 3 } (cmd code args), _, taken _ _ _, rfl⟩,
    fun n code args => ⟨ready { State.reset with cfs.staging.windows := (List.range n).map window } (cmd code args), _,
      taken _ _ _, rfl, by simp [ready]⟩⟩
  all_goals simp only [rasterEncoded, entryEncoded, patternEncoded, windowEncoded]
  all_goals decide +kernel

/-- Arguments that lie just outside the encodings of the other commands. -/
theorem witness_BadArgumentRefusals :
    (∀ takeover hi lo : Byte, takeover = 0 ∨ takeover = 1 → ([2, 0, 0] : List Byte) ≠ [takeover, hi, lo])
    ∧ (∀ hi lo : Byte, ([0] : List Byte) ≠ [hi, lo]) ∧ ([2] : List Byte) ≠ [0] ∧ ([2] : List Byte) ≠ [1]
    ∧ (∀ bank item selection data, bank = 0 ∨ bank = 1 → ([2, 0] : List Byte) = bank :: item :: selection →
        ¬readsItem item selection data)
    ∧ ∀ args ∈ ([[], [255, 1, 2, 3, 4, 5, 6], 0 :: List.replicate 51 0, [0, 1, 2, 3, 4]] : List (List Byte)),
      ∀ n, 1 ≤ n → n ≤ 16 → args.length = 1 + 3 * n → 256 < (byteAt args 0).toNat + n := by
  refine ⟨?_, by simp, by decide, by decide, ?_, ?_⟩
  · rintro t hi lo (rfl | rfl) <;> simp
  · rintro bank item selection data (rfl | rfl) <;> simp
  · intro args ha n h1 h2 h3
    simp only [List.mem_cons, List.not_mem_nil, or_false] at ha
    rcases ha with rfl | rfl | rfl | rfl <;> simp at h3
    · omega
    · obtain rfl : n = 2 := by omega
      decide
    · omega
    · omega

/-- COMMIT with one pending; with a bank that fails; with a good bank in each output state. -/
theorem witness_CommitOutcomes :
    (∃ s c, Taken s c 0x17 [] ∧ s.cfs.commitPending.isSome = true)
    ∧ (∃ s c f, Taken s c 0x17 [] ∧ s.cfs.commitPending = none ∧ s.cfs.staging.validate = some f)
    ∧ (bank .free).validate = none
    ∧ ∀ o p, ∃ s c, Taken s c 0x17 [] ∧ s.cfs.commitPending = none ∧ s.cfs.staging = bank .free ∧ s.otg.output = o
      ∧ s.otg.holdPosition = p :=
  ⟨⟨ready { State.reset with cfs.commitPending := some 3 } (cmd 0x17 []), _, taken _ _ _, rfl⟩,
    ⟨ready State.reset (cmd 0x17 []), _, ⟨1, none⟩, taken _ _ _, rfl, by decide +kernel⟩, by decide +kernel,
    fun o p => ⟨ready { inOutput .free o .idle with otg.holdPosition := p } (cmd 0x17 []), _, taken _ _ _, rfl, rfl, rfl,
      rfl⟩⟩

/-- The predicates of Table 8-5 over entries and windows; a bank that passes (`test_validation_codes` has one bank for each
code that fails). -/
theorem witness_ValidationConditions :
    ∃ (b : Bank) (entryOk : Nat → Entry → Prop) (windowOk : Nat → Window → Prop),
      (∀ e, entryOk 7 e ↔ (e.action = .showThin → 2 ≤ e.thinDivisor ∧ e.thinDivisor ≤ 16))
      ∧ (∀ e, entryOk 8 e ↔ ((b.patterns.toList.getD e.patternA none).isSome = true
          ∧ ∀ i, e.patternB = some i → (b.patterns.toList.getD i none).isSome = true))
      ∧ (∀ w, windowOk 10 w ↔ (w.x + w.width ≤ b.raster.width ∧ w.y + w.height ≤ b.raster.height))
      ∧ (∀ w, windowOk 11 w ↔ w.glyphBase + w.stride * (w.height - 1) + (w.width * w.depth + 7) / 8 ≤ 16384)
      ∧ (∀ w, windowOk 12 w ↔ w.paletteBase + 2 ^ w.depth - 1 ≤ 255)
      ∧ (∀ w, windowOk 13 w ↔ ∀ k, w.key = some k → k < 2 ^ w.depth) ∧ b.validate = none :=
  ⟨bank .locked, fun | 7 => _ | 8 => _ | _ => fun _ => True, fun | 10 => _ | 11 => _ | 12 => _ | 13 => _ | _ => fun _ => True, fun _ => Iff.rfl, fun _ => Iff.rfl,
    fun _ => Iff.rfl, fun _ => Iff.rfl, fun _ => Iff.rfl, fun _ => Iff.rfl, by decide +kernel⟩

/-- Every item of Table 8-4 at the end of its range, and one selection out of it; READ_CONFIG of the staging bank, of an
active bank and of an empty one. -/
theorem witness_DiscardAndReadConfig :
    (∃ data, readsItem 0 [] data) ∧ (∃ data, readsItem 1 [] data) ∧ (∃ data, readsItem 2 [36, 28] data)
    ∧ (∃ data, readsItem 3 [15] data) ∧ (∃ data, readsItem 4 [] data) ∧ (∀ data, ¬readsItem 3 [16] data)
    ∧ (∃ s c, Taken s c 0x19 [1, 2, 36, 28]) ∧ (∃ s c, Taken s c 0x19 [0, 4] ∧ s.cfs.active = some (bank .free))
    ∧ ∃ s c, Taken s c 0x19 [0, 4] ∧ s.cfs.active = none :=
  ⟨⟨_, Or.inl ⟨rfl, rfl, rfl⟩⟩, ⟨_, Or.inr (Or.inl ⟨rfl, rfl, rfl⟩)⟩,
    ⟨_, Or.inr (Or.inr (Or.inl ⟨rfl, 36, 28, rfl, by decide, by decide, by decide, rfl⟩))⟩,
    ⟨_, Or.inr (Or.inr (Or.inr (Or.inl ⟨rfl, 15, rfl, by decide, rfl⟩)))⟩,
    ⟨_, Or.inr (Or.inr (Or.inr (Or.inr ⟨rfl, rfl, rfl⟩)))⟩, by simp [readsItem],
    ⟨_, _, taken State.reset _ _⟩, ⟨_, _, taken (inOutput .free .off .idle) _ _, rfl⟩,
    ⟨_, _, taken State.reset _ _, rfl⟩⟩

/-- The last two bytes of the glyph store, and one byte past its end. -/
theorem witness_WriteGlyphWritesStore :
    (∃ s c, Taken s c 0x20 [0x3F, 0xFE, 1, 2]) ∧ (0x3F : Byte).toNat * 256 + (0xFE : Byte).toNat + 2 = 16384
    ∧ ∃ s c, Taken s c 0x20 [0x3F, 0xFF, 1, 2] :=
  ⟨⟨_, _, taken State.reset _ _⟩, by decide, ⟨_, _, taken State.reset _ _⟩⟩

/-- The last palette entry, in ACTIVE with 3 and with 4 pending items, and in OFF. -/
theorem witness_WritePaletteOutcomes :
    (255 : Byte).toNat + 1 = 256
    ∧ (∀ n, ∃ s c, Taken s c 0x21 [255, 1, 2, 3] ∧ s.otg.output = .active ∧ s.ovc.palettePending.length = n)
    ∧ ∃ s c, Taken s c 0x21 [255, 1, 2, 3] ∧ s.otg.output ≠ .active :=
  ⟨by decide, fun n => ⟨ready { inOutput .free .active .lineStartDue with
      ovc.palettePending := List.replicate n { first := 0, colours := [1] } } (cmd 0x21 [255, 1, 2, 3]), _,
      taken _ _ _, rfl, by simp [ready]⟩,
    ⟨_, _, taken State.reset _ _, by decide⟩⟩

/-- A lane that falls free with whatever waits: replies, notices (a RESET_DONE or another), at any count. -/
theorem witness_LaneFreeChooses :
    (∃ s : List Reply → List Notice → Nat → State, ∀ r n k, (s r n k).resetHeld = false
      ∧ (s r n k).rlt.lane = .busy (.reply resetReply) 13 ∧ (s r n k).mge.resetPending = false
      ∧ (s r n k).rlt.replies = r ∧ (s r n k).rlt.notices = n ∧ (s r n k).rlt.consecutive = k)
    ∧ ({ kind := .resetDone, detail := 2, frame := 0 } : Notice).kind = .resetDone :=
  ⟨⟨fun r n k => { State.reset with rlt := { State.reset.rlt with
      replies := r, notices := n, consecutive := k, lane := .busy (.reply resetReply) 13 } },
    fun _ _ _ => ⟨rfl, rfl, rfl, rfl, rfl, rfl⟩⟩, rfl⟩

/-- A step that ends on an idle lane with whatever joined: replies, notices (a RESET_DONE or another); and on a busy one. -/
theorem witness_LaneFreeChooses_settle :
    (∃ s : List Reply → List Notice → State, ∀ r n, (s r n).rlt.lane = .idle ∧ (s r n).rlt.replies = r
      ∧ (s r n).rlt.notices = n)
    ∧ (∃ n : Notice, n.kind ≠ .resetDone) ∧ ∃ m sent, State.reset.rlt.lane = .busy m sent :=
  ⟨⟨fun r n => { State.cleared with rlt := { State.cleared.rlt with replies := r, notices := n } },
    fun _ _ => ⟨rfl, rfl, rfl⟩⟩, ⟨{ kind := .coasting, detail := 0, frame := 0 }, by decide⟩, _, _, rfl⟩

/-- The RESET_DONE of a power-on reset. -/
def resetNotice : Message := .notice { kind := .resetDone, detail := 0, frame := 0 } 0

/-- A message of each kind; and a run of steps that sends one, with no command waiting and both timers stopped. -/
theorem witness_MessagesOnTheLane : (∃ m r, m = Message.reply r) ∧ (∃ m n lost, m = Message.notice n lost)
    ∧ ∃ (s : State) (m : Message) (run : Nat → State), s.resetHeld = false ∧ s.pending = [] ∧ s.lrx.silence = none
      ∧ s.mge.session = none ∧ s.rlt.lane = .busy m 0 ∧ run 0 = s ∧ ∀ k, step (run k) = .next (run (k + 1)) := by
  refine ⟨⟨_, resetReply, rfl⟩, ⟨_, { kind := .coasting, detail := 0, frame := 0 }, 0, rfl⟩, State.reset, _,
    fun k => { State.reset with rlt.lane := if k < 13 then .busy resetNotice k else .idle }, rfl, rfl, rfl, rfl, rfl, rfl,
    fun k => ?_⟩
  have hm : resetNotice.length = 13 := rfl
  refine congrArg Host.Outcome.next (a₁ := tick _) ?_
  rcases Nat.lt_trichotomy k 12 with h | rfl | h
  · rw [tick_of_busy _ resetNotice k rfl (by simp; omega) rfl rfl (by omega)]
    simp [show k + 1 < 13 by omega]
  · decide +kernel
  · rw [tick_of_idle _ (by simp; omega) rfl rfl]
    simp [show ¬k < 13 by omega]
    omega

/-- A masked and an unmasked kind, queues of 7 and of 8 notices. -/
theorem witness_RaisingANotice :
    (.coasting, 10) ∈ noticeKinds ∧ (0x0400 : Word16).getLsbD 10 = true
    ∧ (.underrun, 7) ∈ noticeKinds ∧ (0x0400 : Word16).getLsbD 7 = false
    ∧ ∀ n, ∃ s : State, s.rlt.mask = 0x0400 ∧ s.rlt.notices.length = n :=
  ⟨by decide, by decide, by decide, by decide, fun n => ⟨{ State.reset with rlt := { State.reset.rlt with
      mask := 0x0400, notices := List.replicate n { kind := .underrun, detail := 0, frame := 0 } } }, rfl, by simp⟩⟩

/-- Items with fields at the ends of their encodings. -/
theorem witness_StagedItemsReadBack :
    (decodeRaster (encodeRaster { raster .free with width := 4095, blankClock := some 15, prime := 255 })).isSome = true
    ∧ (decodeEntry (encodeEntry { Entry.cleared with runLength := 2048, patternB := some 15, thinDivisor := 255 })).isSome
      = true
    ∧ (decodePattern (encodePattern 15 (some { kind := .gate, bits := List.replicate 64 true }))).isSome = true
    ∧ (decodeWindow (encodeWindow { window 7 with
        x := 2047, width := 2048, glyphBase := 16383, depth := 8, key := some 255 })).isSome = true := by decide +kernel

/-- The state after reset meets the laws that a step keeps, and a step of it answers a next state. -/
theorem witness_StepKeepsLaws :
    ∃ s t : State, step s = .next t ∧ Safe.Configuration s ∧ Safe.Cache s ∧ Safe.Lane s ∧ Safe.Memories s
      ∧ Safe.Capacities s ∧ Safe.Output s ∧ Safe.Position s ∧ Safe.FrameList s ∧ Safe.LineStore s ∧ Safe.Link s
      ∧ Safe.Lfsr s := by
  refine ⟨State.reset, _, rfl, ?_⟩
  simp [Safe.Configuration, Safe.Cache, Safe.Lane, Safe.Memories, Safe.Capacities, Safe.Output, Safe.Position,
    Safe.FrameList, Safe.LineStore, Safe.Link, Safe.Lfsr, Safe.boundAgrees, State.reset, State.cleared, Memory.wf, Cells.wf,
    Cells.risingFrom, Bank.default]

end Sys2Proof.Tests
end

section
/-! SUPPORT. The panel clock's waveform (section 6.2): what each pattern kind makes of a bit, and what a regime plays. -/

namespace Sys2Proof.Machine

/-- LEVEL holds its bit in both halves (R103). -/
@[simp] theorem PatternKind.bitLevel_level (b : Bool) (h : Half) : PatternKind.level.bitLevel b h = b := rfl

/-- GATE's pulse stands in the first half of a 1 (R104). -/
@[simp] theorem PatternKind.bitLevel_gate_first (b : Bool) : PatternKind.gate.bitLevel b .first = b := by
  cases b <;> rfl

/-- GATE is low in the second half whatever the bit (R104). -/
@[simp] theorem PatternKind.bitLevel_gate_second (b : Bool) : PatternKind.gate.bitLevel b .second = false := by
  cases b <;> rfl

/-- R102: the bit at position p mod L sets the level of pixel time `p`. -/
theorem ClockRegime.levelAt_pattern {bits : List Bool} {p : Nat} {v : Bool}
    (applied : bits[p % bits.length]? = some v) (k : PatternKind) (invert : Bool) (h : Half) :
    (ClockRegime.pattern k bits invert).levelAt p h = (k.bitLevel v h ^^ invert) := by
  have bit_eq : bits.getD (p % bits.length) false = v := by simp [List.getD_eq_getElem?_getD, applied]
  rw [ClockRegime.levelAt, bit_eq]

/-- R105: the invert flag inverts the waveform at every pixel time and half, whatever the pattern. -/
theorem ClockRegime.levelAt_inverted (k : PatternKind) (bits : List Bool) (p : Nat) (h : Half) :
    (ClockRegime.pattern k bits true).levelAt p h = !(ClockRegime.pattern k bits false).levelAt p h := by
  simp only [ClockRegime.levelAt, Bool.xor_true, Bool.xor_false]

/-- Settles O31: the bit applied at p mod L (R102) fixes the level, the two kinds then differ by `bitLevel` alone. -/
theorem panelClock : Obligations.PanelClock := by
  intro bits p v applied
  have level_of_bit (k : PatternKind) (h : Half) :
      (ClockRegime.pattern k bits false).levelAt p h = k.bitLevel v h := by
    rw [ClockRegime.levelAt_pattern applied, Bool.xor_false]
  refine ⟨fun h => ?level, ?gateFirst, ?gateSecond, fun k h => ClockRegime.levelAt_inverted k bits p h⟩
  case level => rw [level_of_bit, PatternKind.bitLevel_level]
  case gateFirst => rw [level_of_bit, PatternKind.bitLevel_gate_first]
  case gateSecond => rw [level_of_bit, PatternKind.bitLevel_gate_second]

end Sys2Proof.Machine
end

section
/-! SUPPORT. Laying a window over a pixel (section 7.2): the channels of a pixel, the blend of one channel and of a pixel,
and when a candidate shows. -/

namespace Sys2Proof.Machine

/-! ### The channels of a pixel -/

@[simp] theorem red_pixelOf (r g b : Byte) : red (pixelOf r g b) = r :=
  calc (r ++ g ++ b).extractLsb' 16 8
    _ = (r ++ g).extractLsb' 8 8 := BitVec.extractLsb'_append_eq_of_le (by decide)
    _ = r := BitVec.extractLsb'_append_eq_left

@[simp] theorem green_pixelOf (r g b : Byte) : green (pixelOf r g b) = g :=
  calc (r ++ g ++ b).extractLsb' 8 8
    _ = (r ++ g).extractLsb' 0 8 := BitVec.extractLsb'_append_eq_of_le (by decide)
    _ = g := BitVec.extractLsb'_append_eq_right

@[simp] theorem blue_pixelOf (r g b : Byte) : blue (pixelOf r g b) = b :=
  BitVec.extractLsb'_append_eq_right (a := r ++ g)

/-- The three channels make up the whole pixel. -/
@[simp] theorem pixelOf_channels (p : Pixel) : pixelOf (red p) (green p) (blue p) = p :=
  calc (p.extractLsb' 16 8 ++ p.extractLsb' 8 8 ++ p.extractLsb' 0 8 : Pixel)
    _ = (p.extractLsb' 8 16 ++ p.extractLsb' 0 8 : Pixel) :=
      congrArg (· ++ p.extractLsb' 0 8) (BitVec.extractLsb'_append_extractLsb'_eq_extractLsb' rfl)
    _ = p.extractLsb' 0 24 := BitVec.extractLsb'_append_extractLsb'_eq_extractLsb' rfl
    _ = p := BitVec.extractLsb'_eq_self

/-! ### The blend of one channel -/

/-- The weights add up to 8, so the weighted sum lies between 8 times the smaller and 8 times the larger value. -/
theorem weightedSum_between {w : Nat} (hw : w ≤ 8) (c u : Nat) :
    8 * min c u ≤ w * c + (8 - w) * u ∧ w * c + (8 - w) * u ≤ 8 * max c u := by
  have split_eight (m : Nat) : 8 * m = w * m + (8 - w) * m := by rw [← Nat.add_mul, Nat.add_sub_cancel' hw]
  rw [split_eight (min c u), split_eight (max c u)]
  exact ⟨Nat.add_le_add (Nat.mul_le_mul_left _ (Nat.min_le_left c u)) (Nat.mul_le_mul_left _ (Nat.min_le_right c u)),
    Nat.add_le_add (Nat.mul_le_mul_left _ (Nat.le_max_left c u)) (Nat.mul_le_mul_left _ (Nat.le_max_right c u))⟩

/-- The rounded quotient stays between the two values (R116). -/
theorem weightedMean_between {w : Nat} (hw : w ≤ 8) (c u : Nat) :
    min c u ≤ (w * c + (8 - w) * u + 4) / 8 ∧ (w * c + (8 - w) * u + 4) / 8 ≤ max c u := by
  obtain ⟨low, high⟩ := weightedSum_between hw c u
  omega

/-- R116's formula is exact: its quotient is at most 255, so the byte holds it whole. -/
theorem blendByte_toNat {w : Nat} (hw : w ≤ 8) (c u : Byte) :
    (blendByte w c u).toNat = (w * c.toNat + (8 - w) * u.toNat + 4) / 8 := by
  have fits : (w * c.toNat + (8 - w) * u.toNat + 4) / 8 < 2 ^ 8 :=
    (weightedMean_between hw c.toNat u.toNat).2.trans_lt (Nat.max_lt.mpr ⟨c.isLt, u.isLt⟩)
  rw [blendByte, byteOf, BitVec.toNat_ofNat, Nat.mod_eq_of_lt fits]

/-- Weight 8 leaves nothing of the value beneath. -/
@[simp] theorem blendByte_eight (c u : Byte) : blendByte 8 c u = c := by
  apply BitVec.eq_of_toNat_eq
  rw [blendByte_toNat (Nat.le_refl 8)]
  omega

/-- Equal values leave no room between them. -/
theorem blendByte_self {w : Nat} (hw : w ≤ 8) (c : Byte) : blendByte w c c = c := by
  apply BitVec.eq_of_toNat_eq
  have between := weightedMean_between hw c.toNat c.toNat
  rw [blendByte_toNat hw]
  omega

/-! ### The blend of a pixel -/

/-- Each channel of a blend is the blend of that channel, with no carry between channels (R116). -/
theorem blend_channels (w : Nat) (c u : Pixel) :
    red (blend w c u) = blendByte w (red c) (red u) ∧ green (blend w c u) = blendByte w (green c) (green u)
      ∧ blue (blend w c u) = blendByte w (blue c) (blue u) :=
  ⟨red_pixelOf .., green_pixelOf .., blue_pixelOf ..⟩

theorem blend_eight (c u : Pixel) : blend 8 c u = c := by
  simp only [blend, blendByte_eight, pixelOf_channels]

theorem blend_self {w : Nat} (hw : w ≤ 8) (c : Pixel) : blend w c c = c := by
  simp only [blend, blendByte_self hw, pixelOf_channels]

/-! ### Laying a candidate over a pixel -/

theorem Candidate.covers_iff (k : Candidate) (x : Nat) :
    k.covers x = true ↔ k.window.x ≤ x ∧ x < k.window.x + k.window.width := by
  simp only [Candidate.covers, Bool.and_eq_true, decide_eq_true_eq]

/-- R114: outside its columns a candidate leaves the value beneath unchanged. -/
theorem Candidate.over_outside {k : Candidate} {x : Nat}
    (outside : x < k.window.x ∨ k.window.x + k.window.width ≤ x) (s : State) (u : Pixel) : k.over s x u = u := by
  have uncovered : ¬k.covers x = true := by
    rw [k.covers_iff]
    omega
  simp [Candidate.over, uncovered]

/-- Within its columns a candidate is transparent at its key and blends everywhere else (R116). -/
theorem Candidate.over_inside {k : Candidate} {x : Nat} (left : k.window.x ≤ x)
    (right : x < k.window.x + k.window.width) (s : State) (u : Pixel) :
    k.over s x u = if k.window.key = some (k.glyphIndex (x - k.window.x)) then u
      else blend k.window.weight (s.paletteColour (k.window.paletteBase + k.glyphIndex (x - k.window.x))) u := by
  have covered : k.covers x = true := (k.covers_iff x).mpr ⟨left, right⟩
  simp [Candidate.over, covered]

/-- Settles O32: a candidate outside its columns, at its key and off it (R114, R116); then the blend, channel by channel,
where a weighted mean of two bytes lies between them. -/
theorem windowOverPixel : Obligations.WindowOverPixel := by
  refine ⟨fun s k x u => ⟨fun outside => Candidate.over_outside outside s u, fun left right => ⟨?keyed, ?drawn⟩⟩,
    fun w c u _ hw => ⟨blendByte_toNat hw c u, ?between⟩, blend_channels, blend_eight,
    fun w c _ hw => blend_self hw c⟩
  case keyed =>
    intro key
    rw [Candidate.over_inside left right, if_pos key]
  case drawn =>
    intro key
    rw [Candidate.over_inside left right, if_neg key]
  case between =>
    rw [blendByte_toNat hw]
    exact weightedMean_between hw c.toNat u.toNat

end Sys2Proof.Machine
end

section
/-! SUPPORT. PING (section 9.6): its take, in session and out of epoch. -/

namespace Sys2Proof.Machine

variable {s : State} {c : Command}

/-- R146, step 5: a reply out of epoch is queued and leaves the reply cache alone. -/
theorem answer_of_not_inEpoch (outOfEpoch : s.inEpoch c = false) (r : Response) :
    s.answer c r = s.queueReply (c.reply r) := by
  rcases answer_eq s c r with queued | ⟨inEpoch, -⟩
  case inl => exact queued
  case inr => simp [outOfEpoch] at inEpoch

/-- The row PING is the take of code 0x01, valid out of epoch (R146, step 1; R154). -/
theorem exec_ping (s : State) : exec .ping s = .next (take (· == 0x01) true pingBody s) := rfl

/-- R154: a PING that reaches its execution answers its own arguments and leaves the rest to the answer. -/
theorem exec_ping_of_reaches (atHead : AtHead s c 0x01) (reached : reaches s c) :
    exec .ping s = .next ((popped s).answer c { status := .done, detail := 0, data := c.args }).settle := by
  rw [exec_ping, take_free atHead reached (by decide), pingBody]

/-- Settles O34: in session the fresh tag lets PING through, out of epoch its code does (R146, steps 1 and 2); out of epoch
the answer is the queued reply alone. -/
theorem pingEchoesItsArguments : Obligations.PingEchoesItsArguments := by
  intro s c atHead
  refine ⟨fun session => ?inSession, fun outOfEpoch => ?outOfEpoch⟩
  case inSession => exact exec_ping_of_reaches atHead (Or.inr session.fresh)
  case outOfEpoch =>
    rw [exec_ping_of_reaches atHead (Or.inl outOfEpoch), answer_of_not_inEpoch ((popped_inEpoch c).trans outOfEpoch)]

end Sys2Proof.Machine
end

section
/-! SUPPORT. READ_COUNTERS and the Counter Bank (section 10.5): what counting does to a counter, where a counter
stands in the data, and the take of the command, carried out, refused out of epoch and replayed. -/

namespace Sys2Proof.Machine

variable {s : State} {c : Command}

/-! ### Counting (R165) -/

/-- The largest value of a 16-bit counter is 65535. -/
theorem satInc_word16 (x : Word16) : satInc x = if x = 65535 then 65535 else x + 1 := by
  by_cases top : x = 65535
  case pos =>
    subst top
    rfl
  case neg => rw [if_neg top]; exact if_neg top

/-- As a number, the counter rises by 1, cut off at 65535. -/
theorem toNat_satInc_word16 (x : Word16) : (satInc x).toNat = min (x.toNat + 1) 65535 := by
  rw [satInc_word16]
  by_cases top : x = 65535
  case pos =>
    subst top
    rfl
  case neg =>
    rw [if_neg top]
    bv_omega

/-- Counting a counter adds 1 to it alone, and leaves it at 65535 (R165). -/
theorem Ctb.get_count_eq_ite (b : Ctb) (k other : Counter) :
    (b.count k).get other
      = if other = k then (if b.get k = 65535 then 65535 else b.get k + 1) else b.get other := by
  by_cases same : other = k
  case pos =>
    subst same
    rw [if_pos rfl, Ctb.get_count_same, satInc_word16]
  case neg => rw [if_neg same, Ctb.get_count_other _ _ _ (Ne.symm same)]

/-- Counting `n` times adds `n`, at most to 65535: each step adds 1, and what is cut off once stays so (R165). -/
theorem Ctb.toNat_get_countTimes_same (b : Ctb) (k : Counter) (n : Nat) :
    ((b.countTimes k n).get k).toNat = min ((b.get k).toNat + n) 65535 := by
  induction n generalizing b with
  | zero =>
    have := (b.get k).isLt
    simp only [Ctb.countTimes]
    omega
  | succ n ih =>
    rw [Ctb.countTimes, ih, Ctb.get_count_same, toNat_satInc_word16]
    omega

theorem Ctb.toNat_get_countTimes (b : Ctb) (k other : Counter) (n : Nat) :
    ((b.countTimes k n).get other).toNat
      = if other = k then min ((b.get k).toNat + n) 65535 else (b.get other).toNat := by
  by_cases same : other = k
  case pos =>
    subst same
    rw [if_pos rfl, Ctb.toNat_get_countTimes_same]
  case neg => rw [if_neg same, Ctb.get_countTimes_other _ _ _ _ (Ne.symm same)]

/-! ### The data of READ_COUNTERS (Table 10-4) -/

/-- Two bytes to a word: word `i` of the data is element `i` of the list, and 0 beyond its end. -/
theorem wordAt2_flatMap_wordBytes2 (words : List Word16) (i : Nat) :
    wordAt2 (words.flatMap wordBytes2) (2 * i) = words.getD i 0 := by
  induction words generalizing i with
  | nil => simp [wordAt2, byteAt]
  | cons word rest ih =>
    rw [List.flatMap_cons]
    cases i with
    | zero => exact wordAt2_wordBytes2 word _
    | succ i => exact ih i

/-- Table 10-4 gives each counter one index. -/
theorem eq_index_of_mem_counterIndices {k : Counter} {i : Nat} (row : (k, i) ∈ counterIndices) : i = k.index.val := by
  have each : ∀ entry ∈ counterIndices, entry.2 = entry.1.index.val := by decide
  exact each (k, i) row

/-- Each counter stands in the data at its index (R166). -/
theorem Ctb.wordAt2_bytes (b : Ctb) (k : Counter) : wordAt2 b.bytes (2 * k.index.val) = b.get k := by
  rw [Ctb.bytes, wordAt2_flatMap_wordBytes2]
  simp [Ctb.get]

/-! ### A take that does not reach its execution (R146, steps 1 and 2) -/

section
variable {code : Byte} {accepts : Byte → Bool} {body : CommandBody}

/-- R146, step 2: a cached tag with an equal fingerprint replays the cached reply, whatever the row. -/
theorem take_replayed {r : CacheRecord} (free : Bool) (atHead : AtHead s c code) (accepted : accepts code = true)
    (inEpoch : s.inEpoch c = true) (cached : s.cached? c.tag = some r) (same : r.fingerprint = c.fingerprint) :
    take accepts free body s = ((popped s).queueReply { r.reply with replayed := true }).settle := by
  rw [take_of_atHead atHead accepted]
  simp [State.process, inEpoch, cached, same]

/-- R146, step 1: a code that is not valid out of epoch is refused there, by whether a session is open at all. -/
theorem take_outOfEpoch (atHead : AtHead s c code) (accepted : accepts code = true) (outOfEpoch : s.inEpoch c = false) :
    take accepts false body s
      = ((popped s).refuse c (if s.mge.session.isNone then .noSession else .staleEpoch)).settle := by
  have session_popped : (popped s).mge.session = s.mge.session := rfl
  rw [take_of_atHead atHead accepted]
  simp [State.process, outOfEpoch, session_popped]

theorem take_noSession (atHead : AtHead s c code) (accepted : accepts code = true) (closed : s.mge.session = none) :
    take accepts false body s = ((popped s).refuse c .noSession).settle := by
  rw [take_outOfEpoch atHead accepted (by simp [State.inEpoch, closed])]
  simp [closed]

theorem take_staleEpoch {x : Session} (atHead : AtHead s c code) (accepted : accepts code = true)
    (opened : s.mge.session = some x) (other : x.epoch ≠ c.epoch) :
    take accepts false body s = ((popped s).refuse c .staleEpoch).settle := by
  rw [take_outOfEpoch atHead accepted (by simp [State.inEpoch, opened, other])]
  simp [opened]

end

/-! ### READ_COUNTERS (R166) -/

/-- The row READ_COUNTERS is the take of code 0x40, not valid out of epoch. -/
theorem exec_readCounters (s : State) : exec .readCounters s = .next (take (· == 0x40) false readCountersBody s) := rfl

theorem readCountersBody_read (flag : c.args = [0]) (s : State) :
    readCountersBody c s = (s, { status := .done, detail := 0, data := s.ctb.bytes }) := by
  simp [readCountersBody, flag]

theorem readCountersBody_clear (flag : c.args = [1]) (s : State) :
    readCountersBody c s = ({ s with ctb := Ctb.zero }, { status := .done, detail := 0, data := s.ctb.bytes }) := by
  simp [readCountersBody, flag]

/-- One byte of at most 1 is one of the two flags. -/
theorem flagArgument_iff (args : List Byte) :
    (args.length = 1 ∧ (byteAt args 0).toNat ≤ 1) ↔ args = [0] ∨ args = [1] := by
  constructor
  case mp =>
    rintro ⟨single, small⟩
    obtain ⟨flag, rfl⟩ := List.length_eq_one_iff.mp single
    have flag_cases : flag = 0 ∨ flag = 1 := by
      rw [byteAt_cons_zero] at small
      bv_omega
    simpa using flag_cases
  case mpr => rintro (rfl | rfl) <;> decide

theorem readCountersBody_badArgument (notRead : c.args ≠ [0]) (notClear : c.args ≠ [1]) (s : State) :
    readCountersBody c s = (s, { status := .badArgument, detail := 0, data := [] }) := by
  have noFlag : ¬(c.args.length = 1 ∧ (byteAt c.args 0).toNat ≤ 1) := by
    rw [flagArgument_iff]
    exact not_or_intro notRead notClear
  exact if_neg noFlag

/-- In session with a fresh tag the row does what its own rule says, then answers (R146, steps 3 to 5). -/
theorem exec_readCounters_inSession {t : State} {r : Response} (atHead : AtHead s c 0x40) (session : InSession s c)
    (outcome : readCountersBody c (popped s) = (t, r)) : exec .readCounters s = .next (t.answer c r).settle := by
  rw [exec_readCounters, take_inSession atHead session (by decide), outcome]

/-- Settles O39: the bank's data and its counting (R165), then each outcome of the take (R166, R146). -/
theorem readCountersReadsAndClears : Obligations.ReadCountersReadsAndClears := by
  refine ⟨fun b => ⟨b.length_bytes, fun k i row => ?index, Ctb.get_zero, b.get_count_eq_ite⟩,
    Ctb.toNat_get_countTimes, fun _ _ _ => ⟨rfl, rfl⟩, fun s c atHead =>
    ⟨fun session => ⟨fun flag => ?read, fun flag => ?clear, fun notRead notClear => ?badArgument⟩,
      fun closed => ?noSession, fun x opened other => ?staleEpoch, fun r inEpoch cached same => ?replay⟩⟩
  case index =>
    rw [eq_index_of_mem_counterIndices row]
    exact b.wordAt2_bytes k
  case read => exact exec_readCounters_inSession atHead session (readCountersBody_read flag _)
  case clear => exact exec_readCounters_inSession atHead session (readCountersBody_clear flag _)
  case badArgument =>
    exact exec_readCounters_inSession atHead session (readCountersBody_badArgument notRead notClear _)
  case noSession => rw [exec_readCounters, take_noSession atHead (by decide) closed, State.refuse, Response.plain]
  case staleEpoch =>
    rw [exec_readCounters, take_staleEpoch atHead (by decide) opened other, State.refuse, Response.plain]
  case replay => rw [exec_readCounters, take_replayed false atHead (by decide) inEpoch cached same]

end Sys2Proof.Machine
end

section
/-! SUPPORT. The LFSR (section 3.3): its advance bit by bit; from the advance every old bit can be found again, so no two
values advance to the same one, and none but 0 advances to 0. -/

namespace Sys2Proof.Machine

/-- The advance moves every bit down by one (R50). -/
theorem getLsbD_lfsrAdvance_low (x : Word16) {i : Nat} (hi : i < 15) :
    (lfsrAdvance x).getLsbD i = x.getLsbD (i + 1) := by
  have top : (0x8000#16).getLsbD i = false := by
    interval_cases i <;> rfl
  unfold lfsrAdvance
  split <;> simp [Nat.add_comm 1 i, top]

/-- The bit that enters at the top is the exclusive-or of the four taps (R50). -/
theorem getLsbD_lfsrAdvance_top (x : Word16) :
    (lfsrAdvance x).getLsbD 15 = (x.getLsbD 0 ^^ x.getLsbD 2 ^^ x.getLsbD 3 ^^ x.getLsbD 5) := by
  unfold lfsrAdvance
  cases taps : (x.getLsbD 0 ^^ x.getLsbD 2 ^^ x.getLsbD 3 ^^ x.getLsbD 5) <;> simp

/-- Bits 1 to 15 stand one place lower in the advance, and bit 0 is the exclusive-or of the top bit and the other taps. -/
theorem lfsrAdvance_injective {x y : Word16} (same : lfsrAdvance x = lfsrAdvance y) : x = y := by
  have upper : ∀ i, i < 15 → x.getLsbD (i + 1) = y.getLsbD (i + 1) := fun i hi => by
    rw [← getLsbD_lfsrAdvance_low x hi, ← getLsbD_lfsrAdvance_low y hi, same]
  have lowest : x.getLsbD 0 = y.getLsbD 0 := by
    have top := (getLsbD_lfsrAdvance_top x).symm.trans ((congrArg (·.getLsbD 15) same).trans (getLsbD_lfsrAdvance_top y))
    rw [upper 1 (by decide), upper 2 (by decide), upper 4 (by decide)] at top
    simpa using top
  refine BitVec.eq_of_getLsbD_eq fun i hi => ?_
  cases i with
  | zero => exact lowest
  | succ i => exact upper i (by omega)

theorem lfsrAdvance_ne_zero {x : Word16} (nonzero : x ≠ 0) : lfsrAdvance x ≠ 0 := fun zero =>
  nonzero (lfsrAdvance_injective (zero.trans (by decide : (0 : Word16) = lfsrAdvance 0)))

/-- Settles O14: the worked values of Table 3-3, then the advance bit by bit. -/
theorem lfsrAdvanceLaws : Obligations.LfsrAdvance :=
  ⟨by decide, fun x => ⟨fun _ => getLsbD_lfsrAdvance_low x, getLsbD_lfsrAdvance_top x⟩, fun _ => lfsrAdvance_ne_zero,
    fun _ _ => lfsrAdvance_injective⟩

end Sys2Proof.Machine
end

section
/-! SUPPORT. Validation (section 8.4): the fourteen checks against the fourteen conditions of Table 8-5, and what a failed
check reports. -/

namespace Sys2Proof.Machine

/-! ### The first failure of a list of checks -/

/-- Every check passes exactly when every condition holds. -/
theorem findSome?_none_iff_of_agree {checks : List (Option Failure)} {conditions : List Prop}
    (agree : List.Forall₂ (fun check condition => check = none ↔ condition) checks conditions) :
    checks.findSome? id = none ↔ ∀ condition ∈ conditions, condition := by
  induction agree with
  | nil => simp
  | @cons check condition _ _ head _ ih =>
    cases check with
    | none => rw [List.findSome?_cons_of_isNone (by rfl), ih, List.forall_mem_cons, and_iff_right (head.mp rfl)]
    | some f =>
      have fails : ¬condition := fun h => by simpa using head.mpr h
      rw [List.forall_mem_cons]
      simp [fails]

/-- The failure found is that of a check whose condition fails, every earlier condition holding. -/
theorem findSome?_some_of_agree {checks : List (Option Failure)} {conditions : List Prop} {f : Failure}
    (agree : List.Forall₂ (fun check condition => check = none ↔ condition) checks conditions)
    (found : checks.findSome? id = some f) :
    ∃ i, checks[i]? = some (some f) ∧ ¬conditions.getD i True ∧ ∀ j, j < i → conditions.getD j False := by
  induction agree with
  | nil => simp at found
  | @cons check condition _ _ head _ ih =>
    cases check with
    | none =>
      obtain ⟨i, check, fails, before⟩ := ih (by simpa using found)
      refine ⟨i + 1, check, fails, fun j hj => ?_⟩
      cases j with
      | zero => exact head.mp rfl
      | succ j => exact before j (by omega)
    | some g =>
      cases (by simpa using found : g = f)
      exact ⟨0, rfl, fun h => by simpa using head.mpr h, fun j hj => absurd hj (Nat.not_lt_zero j)⟩

/-! ### The checks one by one -/

variable {b : Bank} {f : Failure}

theorem checkThat_eq_none_iff {code : Nat} {holds : Bool} : checkThat code holds = none ↔ holds = true := by
  unfold checkThat
  split <;> simp [*]

theorem checkThat_report {code : Nat} {holds : Bool} (report : checkThat code holds = some f) :
    f.code = code ∧ f.index = none := by
  unfold checkThat at report
  split at report
  · cases report
  · cases report
    exact ⟨rfl, rfl⟩

theorem checkEntries_eq_none_iff {code : Nat} {ok : Entry → Bool} :
    b.checkEntries code ok = none ↔ ∀ e ∈ b.entriesInForce, ok e = true := by
  simp [Bank.checkEntries]

/-- `f` names the lowest index among the entries in force that fail (R136). -/
def Bank.ReportsEntry (b : Bank) (ok : Entry → Bool) (f : Failure) : Prop :=
  ∃ i e, f.index = some i ∧ b.entriesInForce[i]? = some e ∧ ok e = false
    ∧ ∀ j d, j < i → b.entriesInForce[j]? = some d → ok d = true

theorem checkEntries_report {code : Nat} {ok : Entry → Bool} (report : b.checkEntries code ok = some f) :
    f.code = code ∧ b.ReportsEntry ok f := by
  obtain ⟨i, found, rfl⟩ := Option.map_eq_some_iff.mp report
  obtain ⟨hi, fails, before⟩ := List.findIdx?_eq_some_iff_getElem.mp found
  refine ⟨rfl, i, b.entriesInForce[i], rfl, List.getElem?_eq_getElem hi, by simpa using fails, fun j d hj hd => ?_⟩
  obtain ⟨hjl, rfl⟩ := List.getElem?_eq_some_iff.mp hd
  simpa using before j hj

theorem checkBlankClock_eq_none_iff :
    b.checkBlankClock = none ↔ ∀ i, b.raster.blankClock = some i → b.defines i = true := by
  unfold Bank.checkBlankClock
  split
  next none => simp [none]
  next slot some => split <;> simp [*]

theorem checkBlankClock_report (report : b.checkBlankClock = some f) : f.code = 9 ∧ f.index = b.raster.blankClock := by
  unfold Bank.checkBlankClock at report
  split at report
  · cases report
  next some =>
    split at report
    · cases report
    · cases report
      exact ⟨rfl, some.symm⟩

theorem checkWindows_eq_none_iff {code : Nat} {ok : Window → Bool} :
    b.checkWindows code ok = none ↔ ∀ w ∈ b.windows, ok w = true := by
  simp [Bank.checkWindows, List.filter_eq_nil_iff]

/-- `f` names the lowest id among the windows that fail (R136). -/
def Bank.ReportsWindow (b : Bank) (ok : Window → Bool) (f : Failure) : Prop :=
  ∃ w ∈ b.windows, f.index = some w.id ∧ ok w = false ∧ ∀ x ∈ b.windows, ok x = false → w.id ≤ x.id

theorem checkWindows_report {code : Nat} {ok : Window → Bool} (report : b.checkWindows code ok = some f) :
    f.code = code ∧ b.ReportsWindow ok f := by
  obtain ⟨i, lowest, rfl⟩ := Option.map_eq_some_iff.mp report
  obtain ⟨among, least⟩ := List.min?_eq_some_iff.mp lowest
  obtain ⟨w, failing, rfl⟩ := List.mem_map.mp among
  obtain ⟨mem, fails⟩ := List.mem_filter.mp failing
  refine ⟨rfl, w, mem, rfl, by simpa using fails, fun x hx hfail => ?_⟩
  exact least _ (List.mem_map.mpr ⟨x, List.mem_filter.mpr ⟨hx, by simp [hfail]⟩, rfl⟩)

/-! ### The fourteen conditions (Table 8-5) -/

/-- The condition of each check, in the order of their codes. -/
def Bank.conditions (b : Bank) : List Prop :=
  [ b.raster.lineGeometry = true, b.raster.frameGeometry = true, b.raster.linePulseFits = true,
    b.raster.framePulseFits = true, 1 ≤ b.programLength, b.runSum = b.raster.height,
    ∀ e ∈ b.entriesInForce, e.divisorOk = true, ∀ e ∈ b.entriesInForce, b.entryPatternsOk e = true,
    ∀ i, b.raster.blankClock = some i → b.defines i = true, ∀ w ∈ b.windows, w.insideActive b.raster = true,
    ∀ w ∈ b.windows, w.glyphsInside = true, ∀ w ∈ b.windows, w.paletteInside = true,
    ∀ w ∈ b.windows, w.keyInside = true, b.raster.startLimits = true ]

theorem checks_agree (b : Bank) :
    List.Forall₂ (fun check condition => check = none ↔ condition) b.checks b.conditions :=
  .cons checkThat_eq_none_iff <| .cons checkThat_eq_none_iff <| .cons checkThat_eq_none_iff <|
  .cons checkThat_eq_none_iff <| .cons (checkThat_eq_none_iff.trans decide_eq_true_iff) <|
  .cons (checkThat_eq_none_iff.trans beq_iff_eq) <| .cons checkEntries_eq_none_iff <|
  .cons checkEntries_eq_none_iff <| .cons checkBlankClock_eq_none_iff <| .cons checkWindows_eq_none_iff <|
  .cons checkWindows_eq_none_iff <| .cons checkWindows_eq_none_iff <| .cons checkWindows_eq_none_iff <|
  .cons checkThat_eq_none_iff .nil

/-- Validation passes exactly when every condition holds (R136). -/
theorem validate_eq_none_iff (b : Bank) : b.validate = none ↔ ∀ condition ∈ b.conditions, condition :=
  findSome?_none_iff_of_agree (checks_agree b)

/-- What the check of index `i` reports when it fails (R136). -/
theorem checks_report (b : Bank) {i : Nat} {f : Failure} (report : b.checks[i]? = some (some f)) :
    i < 14 ∧ f.code = i + 1 ∧ (i < 6 ∨ i = 13 → f.index = none)
      ∧ (i = 6 → b.ReportsEntry Entry.divisorOk f) ∧ (i = 7 → b.ReportsEntry b.entryPatternsOk f)
      ∧ (i = 8 → f.index = b.raster.blankClock) ∧ (i = 9 → b.ReportsWindow (·.insideActive b.raster) f)
      ∧ (i = 10 → b.ReportsWindow Window.glyphsInside f) ∧ (i = 11 → b.ReportsWindow Window.paletteInside f)
      ∧ (i = 12 → b.ReportsWindow Window.keyInside f) := by
  have hi : i < 14 := (List.getElem?_eq_some_iff.mp report).1
  refine ⟨hi, ?_⟩
  have check_eq {check : Option Failure} (h : b.checks[i]? = some check) : check = some f := by
    rw [h] at report
    exact Option.some.inj report
  match i, hi with
  | 0, _ | 1, _ | 2, _ | 3, _ | 4, _ | 5, _ | 13, _ =>
    obtain ⟨code, index⟩ := checkThat_report (check_eq rfl)
    exact ⟨code, fun _ => index, by simp⟩
  | 6, _ | 7, _ =>
    obtain ⟨code, entry⟩ := checkEntries_report (check_eq rfl)
    simpa using ⟨code, entry⟩
  | 8, _ => simpa using checkBlankClock_report (check_eq rfl)
  | 9, _ | 10, _ | 11, _ | 12, _ =>
    obtain ⟨code, window⟩ := checkWindows_report (check_eq rfl)
    simpa using ⟨code, window⟩

theorem agree_of_iff {checks : List (Option Failure)} {conditions stated : List Prop}
    (agree : List.Forall₂ (fun check condition => check = none ↔ condition) checks conditions)
    (same : List.Forall₂ Iff conditions stated) :
    List.Forall₂ (fun check condition => check = none ↔ condition) checks stated := by
  induction agree generalizing stated with
  | nil => cases same; exact .nil
  | cons head _ ih => cases same with | cons iff rest => exact .cons (head.trans iff) (ih rest)

/-- Settles O47: the stated conditions are those of the checks, one by one; a failure is that of the first check that
fails, which reports as its kind of check does. -/
theorem validationConditions : Obligations.ValidationConditions := by
  rintro b inForce entryOk windowOk conditions rfl entry7 entry8 window10 window11 window12 window13 stated
  have divisor (e : Entry) : e.divisorOk = true ↔ entryOk 7 e := by
    rw [entry7, Entry.divisorOk]
    by_cases thin : e.action = .showThin <;> simp [thin]
  have patterns (e : Entry) : b.entryPatternsOk e = true ↔ entryOk 8 e := by
    rw [entry8, Bank.entryPatternsOk, Bool.and_eq_true, Option.all_eq_true]
    rfl
  have inside (w : Window) : w.insideActive b.raster = true ↔ windowOk 10 w := by
    simp [window10, Window.insideActive]
  have glyphs (w : Window) : w.glyphsInside = true ↔ windowOk 11 w := by
    rw [window11]
    exact decide_eq_true_iff
  have palette (w : Window) : w.paletteInside = true ↔ windowOk 12 w := by
    simp [window12, Window.paletteInside]
  have key (w : Window) : w.keyInside = true ↔ windowOk 13 w := by
    simp [window13, Window.keyInside, Option.all_eq_true]
  have agree : List.Forall₂ (fun check condition => check = none ↔ condition) b.checks conditions := by
    rw [stated]
    exact agree_of_iff (checks_agree b) <|
      .cons (by simp [Raster.lineGeometry, and_assoc]) <| .cons (by simp [Raster.frameGeometry, and_assoc]) <|
      .cons (by simp [Raster.linePulseFits, and_assoc]) <| .cons (by simp [Raster.framePulseFits, and_assoc]) <|
      .cons Iff.rfl <| .cons Iff.rfl <| .cons (forall₂_congr fun e _ => divisor e) <|
      .cons (forall₂_congr fun e _ => patterns e) <| .cons Iff.rfl <| .cons (forall₂_congr fun w _ => inside w) <|
      .cons (forall₂_congr fun w _ => glyphs w) <| .cons (forall₂_congr fun w _ => palette w) <|
      .cons (forall₂_congr fun w _ => key w) <| .cons (by simp [Raster.startLimits, and_assoc]) .nil
  refine ⟨findSome?_none_iff_of_agree agree, fun f failed => ?_⟩
  obtain ⟨i, check, fails, before⟩ := findSome?_some_of_agree agree failed
  obtain ⟨hi, code, noIndex, report7, report8, report9, report10, report11, report12, report13⟩ := checks_report b check
  have entry_stated {ok : Entry → Bool} {n : Nat} (iff : ∀ e, ok e = true ↔ entryOk n e) (report : b.ReportsEntry ok f) :
      ∃ i e, f.index = some i ∧ b.entriesInForce[i]? = some e ∧ ¬entryOk n e
        ∧ ∀ j d, j < i → b.entriesInForce[j]? = some d → entryOk n d := by
    obtain ⟨i, e, index, here, bad, good⟩ := report
    exact ⟨i, e, index, here, by simp [← iff, bad], fun j d hj hd => (iff d).mp (good j d hj hd)⟩
  have window_stated {ok : Window → Bool} {n : Nat} (iff : ∀ w, ok w = true ↔ windowOk n w)
      (report : b.ReportsWindow ok f) :
      ∃ w ∈ b.windows, f.index = some w.id ∧ ¬windowOk n w ∧ ∀ x ∈ b.windows, ¬windowOk n x → w.id ≤ x.id := by
    obtain ⟨w, mem, index, bad, least⟩ := report
    exact ⟨w, mem, index, by simp [← iff, bad], fun x hx hbad => least x hx (by simpa [← iff] using hbad)⟩
  refine ⟨⟨by omega, by omega, ?first, fun j hj => before j (by omega)⟩, fun h => noIndex (by omega), ?entries,
    fun h => report9 (by omega), ?windows⟩
  case first =>
    rw [code, Nat.add_sub_cancel]
    exact fails
  case entries =>
    rintro (h | h) <;> rw [h]
    · exact entry_stated divisor (report7 (by omega))
    · exact entry_stated patterns (report8 (by omega))
  case windows =>
    intro low high
    have four : i = 9 ∨ i = 10 ∨ i = 11 ∨ i = 12 := by omega
    rcases four with rfl | rfl | rfl | rfl <;> rw [code]
    · exact window_stated inside (report10 rfl)
    · exact window_stated glyphs (report11 rfl)
    · exact window_stated palette (report12 rfl)
    · exact window_stated key (report13 rfl)

/-! ### The runs of a bank that passed (R40) -/

/-- A bank that passed has at least one line of output and runs that cover the active area exactly. -/
theorem geometry_of_valid (valid : b.validate = none) :
    1 ≤ b.raster.height ∧ b.raster.vStart + b.raster.height ≤ b.raster.frameTotal ∧ b.runSum = b.raster.height := by
  have all := (validate_eq_none_iff b).mp valid
  have frame : b.raster.frameGeometry = true := all _ (by simp [Bank.conditions])
  have runs : b.runSum = b.raster.height := all _ (by simp [Bank.conditions])
  simp only [Raster.frameGeometry, Bool.and_eq_true, decide_eq_true_eq] at frame
  exact ⟨frame.1.1, frame.2, runs⟩

/-- The lines before entry `i`. -/
def linesBefore (entries : List Entry) (i : Nat) : Nat := ((entries.take i).map (·.runLength)).sum

@[simp] theorem linesBefore_cons_succ (e : Entry) (rest : List Entry) (i : Nat) :
    linesBefore (e :: rest) (i + 1) = e.runLength + linesBefore rest i := by
  simp [linesBefore]

/-- A line below the sum of the run lengths lies in one run, which the walk finds. -/
theorem exists_run (entries : List Entry) (a : Nat) (covered : a < (entries.map (·.runLength)).sum) :
    ∃ i e p, entries[i]? = some e ∧ p < e.runLength ∧ a = linesBefore entries i + p
      ∧ findRun entries a = some (e, p) := by
  induction entries generalizing a with
  | nil => simp at covered
  | cons e rest ih =>
    rw [findRun]
    split
    next within => exact ⟨0, e, a, rfl, within, by simp [linesBefore], rfl⟩
    next beyond =>
      simp only [List.map_cons, List.sum_cons] at covered
      obtain ⟨i, f, p, here, within, line, found⟩ := ih (a - e.runLength) (by omega)
      exact ⟨i + 1, f, p, here, within, by rw [linesBefore_cons_succ]; omega, found⟩

/-- A line lies in at most one run: an earlier run ends before a later one begins. -/
theorem run_unique (entries : List Entry) {i j p q : Nat} {e f : Entry} (hi : entries[i]? = some e)
    (hj : entries[j]? = some f) (hp : p < e.runLength) (hq : q < f.runLength)
    (same : linesBefore entries i + p = linesBefore entries j + q) : j = i ∧ q = p := by
  induction entries generalizing i j with
  | nil => simp at hi
  | cons g rest ih =>
    cases i with
    | zero =>
      cases j with
      | zero => simpa [linesBefore, eq_comm] using same
      | succ j =>
        cases (by simpa using hi : g = e)
        rw [linesBefore_cons_succ] at same
        simp only [linesBefore, List.take_zero, List.map_nil, List.sum_nil] at same
        omega
    | succ i =>
      cases j with
      | zero =>
        cases (by simpa using hj : g = f)
        rw [linesBefore_cons_succ] at same
        simp only [linesBefore, List.take_zero, List.map_nil, List.sum_nil] at same
        omega
      | succ j =>
        rw [linesBefore_cons_succ, linesBefore_cons_succ] at same
        obtain ⟨rfl, rfl⟩ := ih (by simpa using hi) (by simpa using hj) (by omega)
        exact ⟨rfl, rfl⟩

/-- Settles O15: the run lengths add up to the active height (condition 6), so the walk finds a run, and no other holds the
line. -/
theorem everyActiveLineHasARun : Obligations.EveryActiveLineHasARun := by
  intro b a valid active
  obtain ⟨-, -, runs⟩ := geometry_of_valid valid
  obtain ⟨i, e, p, here, within, line, found⟩ := exists_run b.entriesInForce a (active.trans_eq runs.symm)
  exact ⟨rfl, i, e, p, here, within, line, found, fun j f q hj hq other =>
    run_unique b.entriesInForce here hj within hq (line.symm.trans other)⟩

end Sys2Proof.Machine
end

section
/-! SUPPORT. Frame starts (sections 4.2 and 4.3): the coast, the bind, and the abandonment of the records older than the
one that is bound. -/

namespace Sys2Proof.Machine

/-! ### Abandoning several frames (R21, R24) -/

/-- The state after the records of `older` have been abandoned one after another: their records and lines are gone, each
is counted, and each raises its notice with the present frame number. -/
def State.abandoned (s : State) (older : List FrameRecord) : State :=
  { s with
    frames := s.frames.filter fun x => older.all fun y => !(x.tag == y.tag)
    store := s.store.filter fun l => older.all fun y => !(y.tag == l.tag)
    ctb := s.ctb.countTimes .abandonedFrame older.length
    rlt := older.foldl (fun q x => q.raise .frameAbandoned (detailOf x.tag) s.otg.frameNumber) s.rlt }

theorem foldl_abandon (s : State) (older : List FrameRecord) :
    older.foldl (fun s r => s.abandon r.tag) s = s.abandoned older := by
  induction older generalizing s with
  | nil => simp [State.abandoned, Ctb.countTimes]
  | cons r rest ih =>
    rw [List.foldl_cons, ih]
    have frames : (s.abandon r.tag).frames = s.frames.filter fun x => !(x.tag == r.tag) := rfl
    have store : (s.abandon r.tag).store = s.store.filter fun l => !(l.tag == r.tag) := rfl
    simp only [State.abandoned, frames, store, List.filter_filter, List.all_cons, List.foldl_cons]
    simp only [Bool.and_comm, show ∀ l : LineRecord, (l.tag == r.tag) = (r.tag == l.tag) from fun _ => BEq.comm]
    rfl

variable {s : State} {prime : Nat} {older younger : List FrameRecord} {r : FrameRecord}

/-- Distinct tags: taking out the records of the older part leaves the rest. -/
theorem filter_older (nodup : ((older ++ r :: younger).map (·.tag)).Nodup) :
    ((older ++ r :: younger).filter fun x => older.all fun y => !(x.tag == y.tag)) = r :: younger := by
  rw [List.map_append, List.nodup_append] at nodup
  obtain ⟨-, -, apart⟩ := nodup
  have older_gone : (older.filter fun x => older.all fun y => !(x.tag == y.tag)) = [] := by
    refine List.filter_eq_nil_iff.mpr fun x hx kept => ?_
    have := List.all_eq_true.mp kept x hx
    simp at this
  have rest_kept : ((r :: younger).filter fun x => older.all fun y => !(x.tag == y.tag)) = r :: younger := by
    refine List.filter_eq_self.mpr fun x hx => List.all_eq_true.mpr fun y hy => ?_
    have := apart y.tag (List.mem_map_of_mem hy) x.tag (List.mem_map_of_mem hx)
    simpa using Ne.symm this
  rw [List.filter_append, older_gone, rest_kept, List.nil_append]

/-- Under LOCKED the records older than the oldest ready one are abandoned, in their order (R24). -/
theorem abandonOlder_eq (frames : s.frames = older ++ r :: younger) (nodup : (s.frames.map (·.tag)).Nodup)
    (waiting : ∀ x ∈ older, x.bound = false ∧ x.ready prime = false) (ready : r.ready prime = true) :
    s.abandonOlder prime = { s.abandoned older with frames := r :: younger } := by
  have taken : s.frames.takeWhile (fun x => !x.ready prime) = older := by
    rw [frames, List.takeWhile_append_of_pos (fun x hx => by simp [(waiting x hx).2])]
    simp [ready]
  have unbound : older.filter (fun x => !x.bound) = older :=
    List.filter_eq_self.mpr fun x hx => by simp [(waiting x hx).1]
  have kept : (s.abandoned older).frames = r :: younger := by
    rw [frames] at nodup
    exact (congrArg _ frames).trans (filter_older nodup)
  rw [State.abandonOlder, taken, unbound, foldl_abandon, ← kept]

/-- Binding the oldest record of a list with distinct tags marks that record alone (R24, R60). -/
theorem updateFrame_head (nodup : ((r :: younger).map (·.tag)).Nodup) (f : FrameRecord → FrameRecord) :
    updateFrame r.tag f (r :: younger) = f r :: younger := by
  have others : younger.map (fun x => if x.tag = r.tag then f x else x) = younger := by
    refine (List.map_congr_left fun x hx => ?_).trans (List.map_id younger)
    have : x.tag ≠ r.tag := fun h => (List.nodup_cons.mp nodup).1 (List.mem_map.mpr ⟨x, hx, h⟩)
    simp [this]
  simp [updateFrame, others]

/-! ### The frame starts (R61 to R64) -/

/-- Readiness of an unbound record (R23). -/
theorem ready_iff (x : FrameRecord) (prime : Nat) :
    x.ready prime = true ↔ x.bound = false ∧ (x.state = .closed ∨ prime ≤ x.stored) := by
  simp [FrameRecord.ready]

/-- A coast counts COASTED_FRAME and raises COASTING once a stretch (R64). -/
theorem coast_eq (s : State) : s.coast = { s with
    lsq.coastingNoticed := true
    ctb := s.ctb.count .coastedFrame
    rlt := if s.lsq.coastingNoticed then s.rlt else s.rlt.raise .coasting 0 s.otg.frameNumber } := by
  unfold State.coast
  dsimp only
  split <;> rfl

theorem frameStartFree_of_none (s : State) (none : s.frames.find? (fun x => !x.bound) = none) :
    s.frameStartFree = s.frameStartCoast := by
  have : s.beginFrame.oldestUnbound = Option.none := none
  rw [State.frameStartFree, this]
  rfl

theorem frameStartFree_of_some (s : State) (found : s.frames.find? (fun x => !x.bound) = some r) :
    s.frameStartFree = s.beginFrame.bindFrame r.tag := by
  have : s.beginFrame.oldestUnbound = some r := found
  rw [State.frameStartFree, this]

/-- Settles O23: a frame start that binds nothing is a coast; one in FREE binds the oldest unbound record; one by readiness
first abandons what is older. -/
theorem frameStarts : Obligations.FrameStarts := by
  rintro s otg lsq rfl rfl
  refine ⟨fun t start => ?coast, fun r found => ?free, fun prime older r younger frames nodup waiting unbound ready => ?ready⟩
  case coast =>
    have coasted : t = s.frameStartCoast := by
      rcases start with coast | ⟨free, bound⟩
      · exact coast
      · exact free.trans (frameStartFree_of_none s (List.find?_eq_none.mpr fun x hx => by simp [bound x hx]))
    rw [coasted, State.frameStartCoast, coast_eq]
    rfl
  case free =>
    rw [frameStartFree_of_some s found]
    rfl
  case ready =>
    have older_waiting : ∀ x ∈ older, x.bound = false ∧ x.ready prime = false := fun x hx => by
      obtain ⟨free, receiving, few⟩ := waiting x hx
      exact ⟨free, by simp [FrameRecord.ready, free, receiving, few]⟩
    have is_ready : r.ready prime = true := (ready_iff r prime).mpr ⟨unbound, ready⟩
    have tail_nodup : ((r :: younger).map (·.tag)).Nodup := by
      rw [frames, List.map_append, List.nodup_append] at nodup
      exact nodup.2.1
    rw [State.frameStartReady, abandonOlder_eq (s := s.beginFrame) frames nodup older_waiting is_ready]
    simp only [State.bindFrame, updateFrame_head tail_nodup]
    rfl

end Sys2Proof.Machine
end

section
/-! SUPPORT. The Line Intake (section 2.3 and 2.4) and command arrivals (section 9.2), outcome by outcome. -/

namespace Sys2Proof.Machine

variable {s : State}

/-! ### Frame marks (R18 to R22) -/

theorem frame?_eq_none_iff (t : Byte) : s.frame? t = none ↔ ∀ r ∈ s.frames, r.tag ≠ t := by
  simp [State.frame?]

theorem frame?_isSome_iff (t : Byte) : (s.frame? t).isSome = true ↔ ∃ r ∈ s.frames, r.tag = t := by
  simp [State.frame?]

theorem openArrival_off (off : s.otg.output = .off) (t : Byte) : s.openArrival t = s := if_pos off

theorem closeArrival_off (off : s.otg.output = .off) (t : Byte) : s.closeArrival t = s := if_pos off

/-- A list with a free place needs no abandonment (R20). -/
theorem makeRoom_of_room (room : s.frames.length < 3) : s.makeRoom = s := if_pos room

/-- A full list loses its oldest unbound record (R20, R21). -/
theorem makeRoom_of_full {r : FrameRecord} (full : s.frames.length = 3)
    (oldest : s.frames.find? (fun x => !x.bound) = some r) : s.makeRoom = s.abandon r.tag := by
  have oldest : s.oldestUnbound = some r := oldest
  simp [State.makeRoom, Config.frameListSize, full, oldest]

/-- An OPEN of a tag that is not listed adds its record to the list that has room (R18, R20). -/
theorem openArrival_new (running : s.otg.output ≠ .off) {t : Byte} (fresh : ∀ r ∈ s.frames, r.tag ≠ t) :
    s.openArrival t = { s.makeRoom with frames := s.makeRoom.frames ++ [FrameRecord.opened t] } := by
  simp [State.openArrival, running, (frame?_eq_none_iff t).mpr fresh]

/-- Settles O11: each frame mark by what the frame list holds of its tag. -/
theorem frameMarks : Obligations.FrameMarks := by
  refine ⟨fun _ => rfl, fun s t off => ⟨openArrival_off off t, closeArrival_off off t⟩, fun s t running =>
    ⟨fun listed => ?openListed, fun fresh room => ?openRoom, fun r fresh full oldest => ?openFull,
      fun r found receiving => ?close, fun r found closed => ?closeClosed, fun unlisted => ?closeUnlisted⟩⟩
  case openListed => simp [State.openArrival, running, (frame?_isSome_iff t).mpr listed]
  case openRoom => rw [openArrival_new running fresh, makeRoom_of_room room]
  case openFull =>
    rw [openArrival_new running fresh, makeRoom_of_full full oldest]
    rfl
  case close =>
    have found : s.frame? t = some r := found
    simp [State.closeArrival, running, found, receiving, updateFrame]
  case closeClosed =>
    have found : s.frame? t = some r := found
    simp [State.closeArrival, running, found, closed]
  case closeUnlisted => simp [State.closeArrival, running, (frame?_eq_none_iff t).mpr unlisted]

/-! ### Lines (R26 to R28) -/

/-- A line that finds the store full is counted, noticed once a frame, and raises the highest number (R27). -/
theorem lineOverflow_eq (s : State) (r : FrameRecord) (number : Nat) : s.lineOverflow r number = { s with
    frames := updateFrame r.tag (fun x => { x with highest := some number, overflowNoticed := true }) s.frames
    ctb := s.ctb.count .overflowLine
    rlt := if r.overflowNoticed then s.rlt else s.rlt.raise .overflow (detailOf r.tag) s.otg.frameNumber } := by
  unfold State.lineOverflow
  dsimp only
  split <;> rfl

/-- The counters after a line has been appended (R28). -/
def State.appendCounters (s : State) (l : LineRecord) : Ctb :=
  let damaged := if l.damaged then s.ctb.count .damagedLine else s.ctb
  if s.cfs.active.any fun b => decide (l.pixels.length ≠ b.raster.width) then damaged.count .widthMismatch else damaged

/-- An appended line changes the line store, its record and the counters (R28). -/
theorem lineAppend_eq (s : State) (l : LineRecord) : s.lineAppend l = { s with
    store := s.store ++ [l]
    frames := updateFrame l.tag (fun x => { x with highest := some l.number, stored := x.stored + 1 }) s.frames
    ctb := s.appendCounters l } := by
  unfold State.lineAppend State.appendCounters
  cases l.damaged <;> cases s.cfs.active with
  | none => rfl
  | some b => by_cases width : l.pixels.length = b.raster.width <;> simp [width, State.count]

/-- Whether a line's number is not above the highest received (R26). -/
theorem notAbove_iff (r : FrameRecord) (number : Nat) :
    r.highest.any (fun h => decide (number ≤ h)) = true ↔ ∃ h, r.highest = some h ∧ number ≤ h := by
  simp [Option.any_eq_true]

/-- Settles O12: the checks of Table 2-2 in their order. -/
theorem lineArrivalChecks : Obligations.LineArrivalChecks := by
  refine ⟨fun s l off => if_pos off, fun s l running => ⟨fun orphan => ?orphan, fun r found =>
    ⟨fun closed => ?closed, fun receiving late => ?order, fun receiving above full => ?overflow,
      fun receiving above room damaged mismatch damaged_eq mismatch_eq => ?append⟩⟩⟩
  case orphan => simp [State.lineArrival, running, (frame?_eq_none_iff l.tag).mpr orphan]
  case closed =>
    have found : s.frame? l.tag = some r := found
    simp [State.lineArrival, running, found, closed]
  case order =>
    have found : s.frame? l.tag = some r := found
    simp [State.lineArrival, running, found, receiving, (notAbove_iff r l.number).mpr late]
  case overflow =>
    have tag : r.tag = l.tag := by simpa using List.find?_some found
    have found : s.frame? l.tag = some r := found
    have inOrder : ¬r.highest.any (fun h => decide (l.number ≤ h)) = true := fun late => by
      obtain ⟨h, highest, le⟩ := (notAbove_iff r l.number).mp late
      exact absurd (above h highest) (by omega)
    simp only [State.lineArrival, running, found, receiving, inOrder, Config.lineStoreSize, full, if_true, if_false,
      lineOverflow_eq, tag, updateFrame, reduceCtorEq, Bool.false_eq_true]
  case append =>
    have found : s.frame? l.tag = some r := found
    have inOrder : ¬r.highest.any (fun h => decide (l.number ≤ h)) = true := fun late => by
      obtain ⟨h, highest, le⟩ := (notAbove_iff r l.number).mp late
      exact absurd (above h highest) (by omega)
    have notFull : ¬8 ≤ s.store.length := by omega
    have counters : s.appendCounters l = mismatch := by rw [mismatch_eq, damaged_eq]; rfl
    simp only [State.lineArrival, running, found, receiving, inOrder, Config.lineStoreSize, notFull, if_false,
      lineAppend_eq, updateFrame, reduceCtorEq, Bool.false_eq_true, counters]

/-! ### Command arrivals (R144, R152) -/

/-- Settles O13: a queue with room takes the command, and its session's idle timer starts again. -/
theorem commandArrivals : Obligations.CommandArrivals := by
  intro s c
  refine ⟨fun room other => ?otherEpoch, fun x room opened own => ?ownEpoch, fun full => ?full⟩
  case otherEpoch =>
    have session : s.mge.session.map (fun x => if x.epoch = c.epoch then { x with idleElapsed := 0 } else x)
        = s.mge.session := by
      cases opened : s.mge.session with
      | none => rfl
      | some x =>
        have : x.epoch ≠ c.epoch := by simpa [opened, State.inEpoch] using other
        simp [this]
    simp [State.commandArrival, Config.commandQueueSize, room, session]
  case ownEpoch => simp [State.commandArrival, Config.commandQueueSize, room, opened, own]
  case full => simp [State.commandArrival, Config.commandQueueSize, full]

end Sys2Proof.Machine
end

section
/-! SUPPORT. What a step can do, said once: the moves of the events, of the commands' own rules, of a row of
opcode_table.json, and of one byte time. Every law over steps is a case analysis of these moves. -/

namespace Sys2Proof.Machine

/-! ### The moves of a command's own rule -/

/-- What the own rule of the row `i` can do to the part when it carries out the command `c` (R146, step 3), with the
conditions under which it does so. -/
inductive CommandMove (c : Command) (s : State) : Instr → State → Prop
  /-- A refusal, or a command that only reads. -/
  | nothing (i : Instr) : CommandMove c s i s
  | openSession (limit : Word16) (closed : s.mge.session = none) :
      CommandMove c s .openSession (s.openSession c.epoch limit)
  | takeOver (limit : Word16) : CommandMove c s .openSession (s.closeSession.openSession c.epoch limit)
  | closeSession : CommandMove c s .closeSession s.closeSession
  | setNotices (mask : Word16) (allowed : mask &&& reservedMaskBits = 0) :
      CommandMove c s .setNotices { s with rlt.mask := mask }
  | deviceReset : CommandMove c s .deviceReset { s with mge.resetPending := true }
  | clearCounters : CommandMove c s .readCounters { s with ctb := Ctb.zero }
  | stage (i : Instr) (bank : Bank) (unlocked : s.cfs.commitPending = none)
      (room : s.cfs.staging.windows.length ≤ 8 → bank.windows.length ≤ 8) :
      CommandMove c s i { s with cfs.staging := bank }
  | commitLater (valid : s.cfs.staging.validate = none) (frame : s.otg.frameInProgress = true) :
      CommandMove c s .commit { s with cfs.commitPending := some c.tag }
  | commitNow (valid : s.cfs.staging.validate = none) (noFrame : s.otg.frameInProgress = false) :
      CommandMove c s .commit { s with cfs := s.cfs.applyCommit }
  | discard : CommandMove c s .discard { s with cfs := { s.cfs with commitPending := none }.restage }
  | writeGlyph (address : Nat) (data : List Byte) (fits : address + data.length ≤ 16384) :
      CommandMove c s .writeGlyph { s with ovc.glyphs := Cells.writeFrom s.ovc.glyphs address data }
  | palettePending (item : PaletteItem) (fits : item.first + item.colours.length ≤ 256) (active : s.otg.output = .active)
      (room : s.ovc.palettePending.length < 4) :
      CommandMove c s .writePalette { s with ovc.palettePending := s.ovc.palettePending ++ [item] }
  | paletteNow (item : PaletteItem) (fits : item.first + item.colours.length ≤ 256) (inactive : s.otg.output ≠ .active) :
      CommandMove c s .writePalette { s with ovc.palette := applyItem s.ovc.palette item }
  | startWait (off : s.otg.output = .off) (bank : s.cfs.active.isSome = true) :
      CommandMove c s .startOutput s.enterWaitFrame
  | startFree (off : s.otg.output = .off) (bank : s.cfs.active.isSome = true) :
      CommandMove c s .startOutput s.frameStartFree
  | requestStop (active : s.otg.output = .active) : CommandMove c s .stopOutput s.requestStop
  | stop (inactive : s.otg.output = .waitFrame ∨ s.otg.output = .held) : CommandMove c s .stopOutput s.enterOff
  | requestHold (kind : HoldKind) (active : s.otg.output = .active) (noStop : s.otg.stopPending = false) :
      CommandMove c s .holdOutput { s with otg.holdPending := some kind }
  | hold (kind : HoldKind) (waiting : s.otg.output = .waitFrame) :
      CommandMove c s .holdOutput (s.discardWaitCount.enterHeld kind .boundary)
  | cancelHold (active : s.otg.output = .active) : CommandMove c s .resumeOutput { s with otg.holdPending := none }
  | resumeFrame (line : Nat) (held : s.otg.output = .held) (position : s.otg.holdPosition = .midFrame line) :
      CommandMove c s .resumeOutput (s.resumeFrame line)
  | resumeWait (held : s.otg.output = .held) (position : s.otg.holdPosition = .boundary) :
      CommandMove c s .resumeOutput s.enterWaitFrame
  | resumeFree (held : s.otg.output = .held) (position : s.otg.holdPosition = .boundary) :
      CommandMove c s .resumeOutput s.frameStartFree

variable (c : Command) (s : State)

theorem openSessionBody_move : CommandMove c s .openSession (openSessionBody c s).1 := by
  unfold openSessionBody
  dsimp only
  split
  · exact .nothing _
  · split
    · rename_i closed
      split
      · exact .nothing _
      · exact .openSession _ closed
    · split
      · exact .nothing _
      · exact .takeOver _

theorem closeSessionBody_move : CommandMove c s .closeSession (closeSessionBody c s).1 := by
  unfold closeSessionBody
  split
  · exact .nothing _
  · exact .closeSession

theorem readStatusBody_move : CommandMove c s .readStatus (readStatusBody c s).1 := by
  unfold readStatusBody
  split <;> exact .nothing _

theorem setNoticesBody_move : CommandMove c s .setNotices (setNoticesBody c s).1 := by
  unfold setNoticesBody
  dsimp only
  split
  next allowed => exact .setNotices _ allowed.2
  next => exact .nothing _

theorem deviceResetBody_move : CommandMove c s .deviceReset (deviceResetBody c s).1 := by
  unfold deviceResetBody
  split
  · exact .nothing _
  · exact .deviceReset

theorem readCountersBody_move : CommandMove c s .readCounters (readCountersBody c s).1 := by
  unfold readCountersBody
  dsimp only
  split
  · dsimp only
    split
    · exact .clearCounters
    · exact .nothing _
  · exact .nothing _

/-- A staging write replaces the staging bank while no commit is pending, or does nothing (R127). -/
theorem stagingWrite_move {α : Type} (i : Instr) (decode : List Byte → Option α) (write : α → Bank → Bank ⊕ Status)
    (room : ∀ x b bank, write x b = .inl bank → b.windows.length ≤ 8 → bank.windows.length ≤ 8) :
    CommandMove c s i (stagingWrite decode write c s).1 := by
  unfold stagingWrite
  split
  · exact .nothing _
  · split
    · exact .nothing _
    next unlocked =>
      split
      next written => exact .stage i _ (by simpa using unlocked) (room _ _ _ written)
      next => exact .nothing _

theorem stageRasterBody_move : CommandMove c s .stageRaster (stageRasterBody c s).1 :=
  stagingWrite_move c s _ _ _ fun _ _ _ written room => by cases written; exact room

theorem stageProgramBody_move : CommandMove c s .stageProgram (stageProgramBody c s).1 :=
  stagingWrite_move c s _ _ _ fun _ _ _ written room => by cases written; exact room

theorem stageProgramLengthBody_move : CommandMove c s .stageProgramLength (stageProgramLengthBody c s).1 :=
  stagingWrite_move c s _ _ _ fun _ _ _ written room => by cases written; exact room

theorem stagePatternBody_move : CommandMove c s .stagePattern (stagePatternBody c s).1 :=
  stagingWrite_move c s _ _ _ fun _ _ _ written room => by cases written; exact room

theorem length_insertAt (position : Nat) (w : Window) (windows : List Window) :
    (insertAt position w windows).length = windows.length + 1 := by
  simp only [insertAt, List.length_append, List.length_cons, List.length_take, List.length_drop]
  omega

/-- Taking a record that is there out of the list makes it shorter. -/
theorem length_withoutWindow_lt {id : Nat} {windows : List Window} {w : Window}
    (found : windows.find? (·.id == id) = some w) : (withoutWindow id windows).length < windows.length := by
  refine List.length_filter_lt_length_iff_exists.mpr ⟨w, List.mem_of_find?_eq_some found, ?_⟩
  have := List.find?_some found
  simpa using this

theorem insertWindowBody_move : CommandMove c s .insertWindow (insertWindowBody c s).1 := by
  refine stagingWrite_move c s _ _ _ fun x b bank written _ => ?_
  split at written
  · cases written
  next room =>
    split at written
    · cases written
    · split at written
      · cases written
      · cases written
        rw [length_insertAt]
        simp only [Config.windowListSize] at room
        omega

theorem removeWindowBody_move : CommandMove c s .removeWindow (removeWindowBody c s).1 := by
  refine stagingWrite_move c s _ _ _ fun x b bank written room => ?_
  split at written
  · cases written
    exact (List.length_filter_le _ _).trans room
  · cases written

theorem moveWindowBody_move : CommandMove c s .moveWindow (moveWindowBody c s).1 := by
  refine stagingWrite_move c s _ _ _ fun x b bank written room => ?_
  split at written
  · cases written
  next found =>
    split at written
    · cases written
    · cases written
      rw [length_insertAt]
      exact (length_withoutWindow_lt found).trans_le room

theorem commitBody_move : CommandMove c s .commit (commitBody c s).1 := by
  unfold commitBody
  split
  · exact .nothing _
  · split
    · exact .nothing _
    · split
      · exact .nothing _
      next valid =>
        split
        next frame => exact .commitLater valid frame
        next noFrame => exact .commitNow valid (by simpa using noFrame)

theorem discardBody_move : CommandMove c s .discard (discardBody c s).1 := by
  unfold discardBody
  split
  · exact .nothing _
  · exact .discard

theorem readConfigBody_move : CommandMove c s .readConfig (readConfigBody c s).1 := by
  unfold readConfigBody
  split
  · exact .nothing _
  · split <;> exact .nothing _

theorem writeGlyphBody_move : CommandMove c s .writeGlyph (writeGlyphBody c s).1 := by
  unfold writeGlyphBody
  dsimp only
  split
  next allowed => exact .writeGlyph _ _ allowed.2.2
  next => exact .nothing _

/-- Three bytes make a pixel. -/
theorem length_pixelsOf (bytes : List Byte) : (pixelsOf bytes).length = bytes.length / 3 := by
  induction bytes using pixelsOf.induct with
  | case1 r g b rest ih =>
    rw [pixelsOf, List.length_cons, ih]
    simp only [List.length_cons]
    omega
  | case2 bytes short =>
    have few : bytes.length < 3 := by
      match bytes, short with
      | [], _ => simp
      | [_], _ => simp
      | [_, _], _ => simp
      | r :: g :: b :: rest, short => exact absurd rfl (short r g b rest)
    rw [pixelsOf.eq_2 _ short, List.length_nil, Nat.div_eq_of_lt few]

/-- The item of a WRITE_PALETTE ends within the palette (R122). -/
theorem decodePaletteArgs_fits {args : List Byte} {item : PaletteItem} (decoded : decodePaletteArgs args = some item) :
    item.first + item.colours.length ≤ 256 := by
  unfold decodePaletteArgs Config.paletteEntries at decoded
  dsimp only at decoded
  split at decoded
  next accepted =>
    cases decoded
    obtain ⟨-, -, length, fits⟩ := accepted
    rw [length_pixelsOf, List.length_drop]
    omega
  next => cases decoded

theorem writePaletteBody_move : CommandMove c s .writePalette (writePaletteBody c s).1 := by
  unfold writePaletteBody
  split
  · exact .nothing _
  next decoded =>
    have fits := decodePaletteArgs_fits decoded
    split
    next active =>
      split
      next room => exact .palettePending _ fits active room
      next => exact .nothing _
    next inactive => exact .paletteNow _ fits inactive

theorem startOutputBody_move : CommandMove c s .startOutput (startOutputBody c s).1 := by
  unfold startOutputBody
  split
  · exact .nothing _
  · split
    next off bank =>
      split
      · exact .startWait off (by simp [bank])
      · exact .startFree off (by simp [bank])
    next => exact .nothing _

theorem stopOutputBody_move : CommandMove c s .stopOutput (stopOutputBody c s).1 := by
  unfold stopOutputBody
  split
  · exact .nothing _
  · split
    next active =>
      split
      · exact .nothing _
      · exact .requestStop active
    next waiting => exact .stop (Or.inl waiting)
    next held => exact .stop (Or.inr held)
    next => exact .nothing _

theorem holdOutputBody_move : CommandMove c s .holdOutput (holdOutputBody c s).1 := by
  unfold holdOutputBody
  split
  · exact .nothing _
  · dsimp only
    split
    next active =>
      split
      · exact .nothing _
      next free =>
        simp only [Bool.or_eq_true, not_or, Bool.not_eq_true] at free
        exact .requestHold _ active free.2
    next waiting => exact .hold _ waiting
    · exact .nothing _
    · exact .nothing _

theorem resumeOutputBody_move : CommandMove c s .resumeOutput (resumeOutputBody c s).1 := by
  unfold resumeOutputBody
  split
  · exact .nothing _
  · split
    next active =>
      split
      · exact .cancelHold active
      · exact .nothing _
    next held =>
      split
      next position => exact .resumeFrame _ held position
      next position =>
        split
        · exact .resumeWait held position
        · exact .resumeFree held position
      · exact .nothing _
    · exact .nothing _
    · exact .nothing _

/-! ### Bad packets and link resets -/

/-- What a bad packet does by lock state and bad run (R7, R8). -/
theorem scoreBad_cases :
    (s.lrx.lock = .search ∧ s.scoreBad = { s with lrx.goodRun := 0 })
      ∨ (s.lrx.lock = .locked ∧ s.lrx.badRun < 7
        ∧ s.scoreBad = { s.count .badPacket with lrx.badRun := s.lrx.badRun + 1 })
      ∨ (s.lrx.lock = .locked ∧ 7 ≤ s.lrx.badRun ∧ s.scoreBad = (s.count .badPacket).linkReset .badRun) := by
  unfold State.scoreBad Config.lossRun
  cases lock : s.lrx.lock with
  | search => exact Or.inl ⟨rfl, rfl⟩
  | locked =>
    by_cases few : s.lrx.badRun < 7
    · exact Or.inr (Or.inl ⟨rfl, few, if_neg (by omega)⟩)
    · exact Or.inr (Or.inr ⟨rfl, by omega, if_pos (by omega)⟩)

/-- A link reset with no DONE reply of a device reset in the reply queue (Table 1-5). -/
theorem linkReset_of_not_queued {s : State} (other : s.resetReplyQueued = false) (cause : LossCause) :
    s.linkReset cause = (s.loseLock cause).dropLink := by
  simp [State.linkReset, other]

/-- A link reset that finds that reply queued is the device reset with the message on the lane kept (R153, R164): a device
reset reads nothing that the link reset changes. -/
theorem linkReset_of_queued {s : State} (queued : s.resetReplyQueued = true) (cause : LossCause) :
    s.linkReset cause = s.deviceReset s.rlt.lane := by
  simp [State.linkReset, queued, State.deviceReset, State.pinValues]

/-! ### The moves of an event -/

/-- The Link Receiver's laws as a predicate on the receiver alone (Table 1-4). -/
def Lrx.Lawful (x : Lrx) : Prop :=
  match x.lock with
  | .search => x.goodRun ≤ 3 ∧ x.badRun = 0 ∧ x.silence = none
  | .locked => x.goodRun = 0 ∧ x.badRun ≤ 7 ∧ ∃ t, x.silence = some t ∧ t < Config.silenceByteTimes

theorem safe_link_iff (s : State) : Safe.Link s ↔ s.lrx.Lawful := Iff.rfl

/-- The receiver after a link reset (R10). -/
def Lrx.lost (receiving : Bool) : Lrx :=
  { lock := .search, goodRun := 0, badRun := 0, silence := none, receiving := receiving }

/-- The rows of the forward link. -/
def IsLinkRow (i : Instr) : Prop := i = .startSymbol ∨ ∃ bytes, i = .packetReceptionEnd bytes

/-- What an event other than a part-wide reset can do before the arbiter acts, by row. -/
inductive EventMove (s : State) : Instr → State → Prop
  /-- LANE_FREE: the arbiter chooses (R163). -/
  | laneFree (m : Message) (sent : Nat) (busy : s.rlt.lane = .busy m sent) :
      EventMove s .laneFree { s with rlt := { s.rlt with lane := .idle }.arbitrate }
  /-- A reception that begins or ends with no further effect (R1, R7, R9, R14). -/
  | link (i : Instr) (row : IsLinkRow i) (lrx : Lrx) (lawful : s.lrx.Lawful → lrx.Lawful) :
      EventMove s i { s with lrx := lrx }
  /-- A packet counted as bad (R8, R13). -/
  | badPacket (i : Instr) (row : IsLinkRow i) (lrx : Lrx) (lawful : s.lrx.Lawful → lrx.Lawful) :
      EventMove s i { s.count .badPacket with lrx := lrx }
  /-- The fourth good header in a row (R7). -/
  | linkLocked (bytes : List Byte) (lrx : Lrx) (lawful : lrx.Lawful) :
      EventMove s (.packetReceptionEnd bytes) (State.raise { s with lrx := lrx } .linkLocked 0)
  /-- A link reset by silence or by a bad run (R10). -/
  | linkReset (i : Instr) (cause : LossCause) (row : linkResetRow s i cause) (counted : State)
      (packet : counted = s ∨ counted = s.count .badPacket) (receiving : Bool) :
      EventMove s i { (counted.loseLock cause).dropLink with lrx := Lrx.lost receiving }
  | openArrival (bytes : List Byte) (lrx : Lrx) (lawful : s.lrx.Lawful → lrx.Lawful) (tag : Byte) :
      EventMove s (.packetReceptionEnd bytes) (State.openArrival { s with lrx := lrx } tag)
  | closeArrival (bytes : List Byte) (lrx : Lrx) (lawful : s.lrx.Lawful → lrx.Lawful) (tag : Byte) :
      EventMove s (.packetReceptionEnd bytes) (State.closeArrival { s with lrx := lrx } tag)
  | lineArrival (bytes : List Byte) (lrx : Lrx) (lawful : s.lrx.Lawful → lrx.Lawful) (l : LineRecord) :
      EventMove s (.packetReceptionEnd bytes) (State.lineArrival { s with lrx := lrx } l)
  | commandArrival (bytes : List Byte) (lrx : Lrx) (lawful : s.lrx.Lawful → lrx.Lawful) (c : Command) :
      EventMove s (.packetReceptionEnd bytes) (State.commandArrival { s with lrx := lrx } c)
  /-- IDLE_TIMER_EXPIRY (R152). -/
  | idleExpiry (x : Session) (opened : s.mge.session = some x) :
      EventMove s .idleTimerExpiry (s.closeSession.raise .sessionExpired x.epoch)
  /-- A line start with an empty active bank, which no run reaches (log entry 18). -/
  | lineNoBank : EventMove s .lineStart s
  /-- The start of a wait line, or of a line outside the active area (R56). -/
  | quietLine (l : Line) (due : s.otg.phase = .lineStartDue)
      (output : s.otg.output = .active ∨ s.otg.output = .waitFrame) : EventMove s .lineStart (s.startLine l)
  /-- The start of an active line (R41). -/
  | activeLine (r : Raster) (e : Entry) (position : Nat) (l : Line) (due : s.otg.phase = .lineStartDue)
      (active : s.otg.output = .active) : EventMove s .lineStart ((s.walkLine r e position).1.startLine l)
  | dataEnd (l : Line) (active : s.otg.output = .active) (inLine : ∃ m, s.otg.phase = .inLine m) :
      EventMove s .activeDataEnd { s with ovc := s.ovc.applyPalette, otg.phase := .inLine l }
  /-- The last line end of a frame, after which the frame end follows (R83). -/
  | lastLineEnd (active : s.otg.output = .active) : EventMove s .lineEnd { s with otg.phase := .frameEndDue }
  /-- The line end at which a LINE hold is reached (R94). -/
  | lineHold (active : s.otg.output = .active) (before : s.otg.linePosition + 1 < s.frameTotal)
      (requested : s.otg.holdPending = some .line) :
      EventMove s .lineEnd (s.enterHeld .line (.midFrame (s.otg.linePosition + 1)))
  | nextLine (active : s.otg.output = .active) (before : s.otg.linePosition + 1 < s.frameTotal) :
      EventMove s .lineEnd
        { s with otg := { s.otg with linePosition := s.otg.linePosition + 1, phase := .lineStartDue } }
  /-- A wait line end with an empty active bank, which no run reaches (log entry 18). -/
  | waitNoBank (waiting : s.otg.output = .waitFrame) : EventMove s .waitLineEnd s.countWaitLine
  | nextWaitLine (waiting : s.otg.output = .waitFrame) :
      EventMove s .waitLineEnd { s.countWaitLine with otg.phase := .lineStartDue }
  | waitFree (waiting : s.otg.output = .waitFrame) : EventMove s .waitLineEnd s.countWaitLine.frameStartFree
  | waitReady (waiting : s.otg.output = .waitFrame) (prime : Nat) (r : FrameRecord)
      (ready : s.frames.find? (·.ready prime) = some r) :
      EventMove s .waitLineEnd (s.countWaitLine.frameStartReady prime r.tag)
  | waitCoast (waiting : s.otg.output = .waitFrame) : EventMove s .waitLineEnd s.countWaitLine.frameStartCoast
  | frameEndOff (active : s.otg.output = .active) :
      EventMove s .frameEnd (s.release.applyPendingCommit.enterOff.raise .outputStopped 0)
  | frameEndHeld (active : s.otg.output = .active) (noStop : s.otg.stopPending = false) (kind : HoldKind) :
      EventMove s .frameEnd (s.release.applyPendingCommit.enterHeld kind .boundary)
  | frameEndWait (active : s.otg.output = .active) (noStop : s.otg.stopPending = false)
      (noHold : s.otg.holdPending = none) : EventMove s .frameEnd s.release.applyPendingCommit.enterWaitFrame
  | frameEndFree (active : s.otg.output = .active) :
      EventMove s .frameEnd s.release.applyPendingCommit.frameStartFree

/-- The device reset of a step: at the lane-free event of its DONE reply, or in a link reset that finds that reply queued
(R153, R157). -/
inductive DeviceResetMove (s : State) : Instr → State → Prop
  | atReply (i : Instr) (row : i = .deviceResetEvent ∨ i = .laneFree) (due : s.resetReplyOnLane = true) :
      DeviceResetMove s i (s.deviceReset .idle)
  | atLinkReset (i : Instr) (cause : LossCause) (row : linkResetRow s i cause) (due : s.resetReplyQueued = true)
      (receiving : Bool) :
      DeviceResetMove s i { s.deviceReset s.rlt.lane with lrx := Lrx.lost receiving }

/-- A link reset's move by what waits in the reply queue. -/
theorem linkReset_move {s counted : State} {i : Instr} {cause : LossCause} (row : linkResetRow s i cause)
    (packet : counted = s ∨ counted = s.count .badPacket) (receiving : Bool) :
    EventMove s i { counted.linkReset cause with lrx := Lrx.lost receiving }
      ∨ DeviceResetMove s i { counted.linkReset cause with lrx := Lrx.lost receiving } := by
  have queued_eq : counted.resetReplyQueued = s.resetReplyQueued := by rcases packet with rfl | rfl <;> rfl
  cases queued : s.resetReplyQueued with
  | false =>
    rw [linkReset_of_not_queued (queued_eq.trans queued)]
    exact Or.inl (.linkReset i cause row counted packet receiving)
  | true =>
    have same : counted.deviceReset counted.rlt.lane = s.deviceReset s.rlt.lane := by
      rcases packet with rfl | rfl <;> rfl
    rw [linkReset_of_queued (queued_eq.trans queued), same]
    exact Or.inr (.atLinkReset i cause row queued receiving)

/-- The receiver's own fields after a link reset, whether or not it carries the device reset (R6, R10). -/
theorem linkReset_lrx (cause : LossCause) : (s.linkReset cause).lrx = Lrx.lost (s.linkReset cause).lrx.receiving := by
  cases queued : s.resetReplyQueued with
  | false => rw [linkReset_of_not_queued queued, (State.dropLink_frame _).1]; rfl
  | true => rw [linkReset_of_queued queued]; rfl

/-- What the other blocks keep of a link reset before the session closes (R34, R76, R153, R164). -/
def State.linkDropped (s : State) : State :=
  { s with
    frames := []
    store := []
    lsq := { s.lsq with bound := none }
    mge := { s.mge with commands := [] }
    rlt := { s.rlt with replies := [] } }

theorem dropLink_of_closed {s : State} (closed : s.mge.session = none) : s.dropLink = s.linkDropped := by
  simp [State.dropLink, State.linkDropped, closed]

theorem dropLink_of_open {s : State} {x : Session} (opened : s.mge.session = some x) :
    s.dropLink = s.linkDropped.closeSession := by
  simp [State.dropLink, State.linkDropped, opened]

/-- A link reset does not look at whether a packet is in reception. -/
theorem linkReset_receiving (cause : LossCause) (before after : Bool) :
    { State.linkReset { s with lrx.receiving := before } cause with lrx := Lrx.lost after }
      = { s.linkReset cause with lrx := Lrx.lost after } := by
  have same : ({ s with lrx.receiving := before } : State).resetReplyQueued = s.resetReplyQueued := rfl
  cases queued : s.resetReplyQueued with
  | false =>
    rw [linkReset_of_not_queued queued, linkReset_of_not_queued (same.trans queued)]
    cases session : s.mge.session with
    | none =>
      rw [dropLink_of_closed (s := s.loseLock cause) session,
        dropLink_of_closed (s := State.loseLock { s with lrx.receiving := before } cause) session]
      rfl
    | some x =>
      rw [dropLink_of_open (s := s.loseLock cause) session,
        dropLink_of_open (s := State.loseLock { s with lrx.receiving := before } cause) session]
      rfl
  | true => rw [linkReset_of_queued queued, linkReset_of_queued (same.trans queued)]; rfl

/-! ### The moves of the forward link's rows -/

/-- A bad packet, with the receiver that the row `i` makes of the one the score leaves (`after`): below the eighth a score,
at the eighth a link reset (R7, R8). The score does not look at whether the packet is still in reception (`held`). -/
theorem scoreBad_move {s : State} {i : Instr} (receiving : s.lrx.receiving = true)
    (bad : i = .startSymbol ∨ ∃ bytes, i = .packetReceptionEnd bytes ∧ (classify bytes).goodHeader = false)
    (after : Lrx → Lrx) (lawful : ∀ x, x.Lawful → (after x).Lawful)
    (lost : ∀ r, ∃ r', after (Lrx.lost r) = Lrx.lost r') (held : Bool) (x : State)
    (hx : x = { s with lrx.receiving := held }) :
    EventMove s i { x.scoreBad with lrx := after x.scoreBad.lrx }
      ∨ DeviceResetMove s i { x.scoreBad with lrx := after x.scoreBad.lrx } := by
  have link : IsLinkRow i := bad.imp id fun ⟨bytes, row, _⟩ => ⟨bytes, row⟩
  rcases scoreBad_cases x with ⟨search, score⟩ | ⟨locked, few, score⟩ | ⟨locked, many, score⟩ <;> subst hx <;> rw [score]
  · refine Or.inl (.link i link (after { s.lrx with receiving := held, goodRun := 0 }) fun h => lawful _ ?_)
    simp only [Lrx.Lawful] at h search ⊢
    simp only [search] at h ⊢
    exact ⟨Nat.zero_le 3, h.2⟩
  · refine Or.inl (.badPacket i link (after { s.lrx with receiving := held, badRun := s.lrx.badRun + 1 })
      fun h => lawful _ ?_)
    simp only [Lrx.Lawful] at h locked ⊢
    simp only [locked] at h ⊢
    exact ⟨h.1, few, h.2.2⟩
  · have row : linkResetRow s i .badRun := ⟨receiving, locked, many, bad⟩
    rw [linkReset_lrx]
    obtain ⟨r', hr'⟩ := lost
      (State.linkReset (State.count { s with lrx.receiving := held } .badPacket) .badRun).lrx.receiving
    rw [hr']
    have := linkReset_receiving (s.count .badPacket) .badRun held r'
    exact this ▸ linkReset_move row (Or.inr rfl) r'

/-- The receiver once a start symbol has begun a reception (R1, R9). -/
def Lrx.started (x : Lrx) : Lrx :=
  { x with receiving := true, silence := if x.lock = .locked then some 0 else x.silence }

theorem Lrx.started_lawful (x : Lrx) (h : x.Lawful) : x.started.Lawful := by
  cases lock : x.lock <;> simp only [Lrx.Lawful, lock, Lrx.started] at h ⊢
  · simpa using h
  · simpa [Config.silenceByteTimes] using ⟨h.1, h.2.1⟩

/-- START_SYMBOL (R1, R9). -/
theorem startSymbol_move : EventMove s .startSymbol s.cutReception.beginReception
    ∨ DeviceResetMove s .startSymbol s.cutReception.beginReception := by
  unfold State.cutReception
  cases receiving : s.lrx.receiving with
  | false => exact Or.inl (.link _ (Or.inl rfl) s.lrx.started s.lrx.started_lawful)
  | true =>
    exact scoreBad_move receiving (Or.inl rfl) Lrx.started Lrx.started_lawful (fun _ => ⟨true, rfl⟩) s.lrx.receiving s rfl

/-- A good-header packet in LOCKED goes by its kind to one of the arrivals, or is discarded (R11 to R14). -/
theorem route_move (bytes : List Byte) (damaged : Bool) (lrx : Lrx) (lawful : s.lrx.Lawful → lrx.Lawful) :
    EventMove s (.packetReceptionEnd bytes) (State.route { s with lrx := lrx } bytes damaged) := by
  have link : IsLinkRow (.packetReceptionEnd bytes) := Or.inr ⟨bytes, rfl⟩
  unfold State.route
  dsimp only
  split
  · exact .openArrival bytes lrx lawful _
  · exact .lineArrival bytes lrx lawful _
  · exact .closeArrival bytes lrx lawful _
  · split
    · exact .badPacket _ link lrx lawful
    · exact .commandArrival bytes lrx lawful _
  · exact .link _ link lrx lawful

/-- PACKET_RECEPTION_END (R5, R7, R8, R11). -/
theorem packetReceptionEnd_move (bytes : List Byte) (receiving : s.lrx.receiving = true) :
    EventMove s (.packetReceptionEnd bytes) (s.endReception bytes)
      ∨ DeviceResetMove s (.packetReceptionEnd bytes) (s.endReception bytes) := by
  have link : IsLinkRow (.packetReceptionEnd bytes) := Or.inr ⟨bytes, rfl⟩
  unfold State.endReception
  dsimp only
  cases good : (classify bytes).goodHeader with
  | false =>
    exact scoreBad_move receiving (Or.inr ⟨bytes, rfl, good⟩) id (fun _ h => h) (fun r => ⟨r, rfl⟩) false _ rfl
  | true =>
    refine Or.inl ?_
    simp only [if_true]
    split
    next search =>
      unfold State.scoreGoodSearch Config.lockRun
      dsimp only
      split
      · exact .linkLocked bytes _ (by simp [Lrx.Lawful, Config.silenceByteTimes])
      next few =>
        refine .link _ link _ fun h => ?_
        simp only [Lrx.Lawful, search] at h ⊢
        exact ⟨by omega, h.2⟩
    next locked =>
      refine route_move s bytes _ _ fun h => ?_
      simp only [Lrx.Lawful, locked] at h ⊢
      exact ⟨h.1, Nat.zero_le 7, h.2.2⟩

/-- SILENCE_TIMER_EXPIRY (R9). -/
theorem silenceExpiry_move (running : s.lrx.silence.isSome = true) :
    EventMove s .silenceTimerExpiry (s.linkReset .silence)
      ∨ DeviceResetMove s .silenceTimerExpiry (s.linkReset .silence) := by
  have lost : s.linkReset .silence
      = { s.linkReset .silence with lrx := Lrx.lost (s.linkReset .silence).lrx.receiving } := by
    rw [← linkReset_lrx]
  rw [lost]
  exact linkReset_move (cause := .silence) ⟨rfl, running⟩ (Or.inl rfl) _

/-! ### The moves of the remaining events -/

/-- LANE_FREE (R157, R163). -/
theorem laneFree_move (busy : s.rlt.lane.isBusy = true) :
    EventMove s .laneFree s.freeLane ∨ DeviceResetMove s .laneFree s.freeLane := by
  unfold State.freeLane
  split
  next due => exact Or.inr (.atReply _ (Or.inr rfl) due)
  next =>
    cases lane : s.rlt.lane with
    | idle => simp [lane, Lane.isBusy] at busy
    | busy m sent => exact Or.inl (.laneFree m sent lane)

/-- IDLE_TIMER_EXPIRY (R152). -/
theorem idleExpiry_move (running : s.idleTimerRuns = true) : EventMove s .idleTimerExpiry s.expireSession := by
  unfold State.expireSession
  split
  next closed => simp [State.idleTimerRuns, closed] at running
  next x opened => exact .idleExpiry x opened

/-- LINE_START (R82). -/
theorem lineStart_move (due : s.lineStartDue = true) : EventMove s .lineStart s.lineStart := by
  simp only [State.lineStartDue, Bool.and_eq_true, Bool.or_eq_true, beq_iff_eq] at due
  obtain ⟨phase, output⟩ := due
  unfold State.lineStart
  split
  · exact .quietLine _ phase output
  next active =>
    unfold State.startFrameLine
    dsimp only
    split
    · split
      · exact .activeLine _ _ _ _ phase active
      · exact .quietLine _ phase output
    · exact .quietLine _ phase output
  · exact .lineNoBank

/-- ACTIVE_DATA_END (R123). -/
theorem activeDataEnd_move (due : s.dataEndDue = true) : EventMove s .activeDataEnd s.activeDataEnd := by
  simp only [State.dataEndDue, Bool.and_eq_true, beq_iff_eq] at due
  obtain ⟨active, phase⟩ := due
  unfold State.activeDataEnd
  split
  next l inLine => exact .dataEnd _ active ⟨l, inLine⟩
  next other => split at phase <;> simp_all

/-- LINE_END (R83, R94). -/
theorem lineEnd_move (due : s.lineEndDue = true) : EventMove s .lineEnd s.lineEnd := by
  simp only [State.lineEndDue, Bool.and_eq_true, beq_iff_eq] at due
  unfold State.lineEnd
  split
  · exact .lastLineEnd due.1
  next before =>
    split
    next requested => exact .lineHold due.1 (Nat.lt_of_not_le before) requested
    · exact .nextLine due.1 (Nat.lt_of_not_le before)

/-- WAIT_LINE_END (R84). -/
theorem waitLineEnd_move (due : s.waitLineEndDue = true) : EventMove s .waitLineEnd s.waitLineEnd := by
  simp only [State.waitLineEndDue, Bool.and_eq_true, beq_iff_eq] at due
  unfold State.waitLineEnd
  dsimp only
  split
  · exact .waitNoBank due.1
  · split
    · exact .waitFree due.1
    · split
      next ready => exact .waitReady due.1 _ _ ready
      next =>
        split
        · exact .waitCoast due.1
        · exact .nextWaitLine due.1

/-- FRAME_END (R96). -/
theorem frameEnd_move (due : s.frameEndDue = true) : EventMove s .frameEnd s.frameEnd := by
  simp only [State.frameEndDue, Bool.and_eq_true, beq_iff_eq] at due
  unfold State.frameEnd
  dsimp only
  split
  · exact .frameEndOff due.1
  next noStop =>
    have noStop : s.otg.stopPending = false := by simpa using noStop
    split
    next kind _ => exact .frameEndHeld due.1 noStop kind
    next noHold =>
      split
      · exact .frameEndWait due.1 noStop noHold
      · exact .frameEndFree due.1

/-! ### The moves of a row -/

/-- What a row of opcode_table.json can do, its arbitration included: a part-wide reset, nothing, an event, or a take, which
queues a stored or refusing reply (R146, steps 1 and 2) or carries its command out and answers it (steps 3 to 5). -/
inductive RowMove (s : State) : Instr → State → Prop
  | powerOnReset : RowMove s .powerOnReset (powerOnReset s)
  | pinReset : RowMove s .pinReset (pinReset s)
  | release (held : s.resetHeld = true) : RowMove s .pinResetRelease
      (State.resetDone { s with resetHeld := false, mge.resetCause := .pin }).settle
  | nothing (i : Instr) : RowMove s i s
  | deviceReset (i : Instr) (u : State) (running : s.resetHeld = false) (move : DeviceResetMove s i u) :
      RowMove s i u.settle
  | event (i : Instr) (u : State) (running : s.resetHeld = false) (move : EventMove s i u) : RowMove s i u.settle
  | queued (i : Instr) (r : Reply) (running : s.resetHeld = false) (room : s.rlt.replies.length < 16) :
      RowMove s i ((popped s).queueReply r).settle
  | carriedOut (i : Instr) (c : Command) (u : State) (r : Response) (running : s.resetHeld = false)
      (room : s.rlt.replies.length < 16) (fresh : s.inEpoch c = true → s.cached? c.tag = none)
      (move : CommandMove c (popped s) i u) : RowMove s i (u.answer c r).settle

/-- An event's row: nothing, or the event's move. -/
theorem event_move {i : Instr} {due : State → Bool} {f : State → State}
    (acts : due s = true → EventMove s i (f s) ∨ DeviceResetMove s i (f s)) : RowMove s i (event due f s) := by
  rcases event_cases due f s with same | ⟨running, isDue, acted⟩
  · rw [same]; exact .nothing i
  · rw [acted]
    rcases acts isDue with move | move
    · exact .event i _ running move
    · exact .deviceReset i _ running move

/-- The take of a row whose rule makes the moves of that row (R145, R146). -/
theorem take_move {i : Instr} (accepts : Byte → Bool) (free : Bool) {body : CommandBody}
    (moves : ∀ c s, CommandMove c s i (body c s).1) : RowMove s i (take accepts free body s) := by
  rcases event_cases (·.mayTake accepts) (·.takeHead free body) s with same | ⟨running, may, acted⟩
  · have same : take accepts free body s = s := same
    rw [same]
    exact .nothing i
  · have room : s.rlt.replies.length < 16 := by
      simp only [State.mayTake, Bool.and_eq_true, decide_eq_true_eq] at may
      exact may.1.1
    have acted : take accepts free body s = (s.takeHead free body).settle := acted
    rw [acted]
    cases head : s.mge.commands.head? with
    | none => simp [State.mayTake, head] at may
    | some c =>
      rw [takeHead_of_head head]
      rcases process_cases (popped s) c free body with ⟨r, -, -, -, replayed⟩ | ⟨st, refused⟩ | ⟨fresh, carried⟩
      · exact replayed ▸ .queued i _ running room
      · exact refused ▸ .queued i _ running room
      · exact carried ▸ .carriedOut i c _ _ running room fresh (moves c (popped s))

/-- Every row answers a next state, and its move is one of these. -/
theorem exec_move (i : Instr) (s : State) : ∃ t, exec i s = .next t ∧ RowMove s i t := by
  cases i with
  | powerOnReset => exact ⟨_, rfl, .powerOnReset⟩
  | pinReset => exact ⟨_, rfl, .pinReset⟩
  | pinResetRelease =>
    refine ⟨_, rfl, ?_⟩
    unfold pinResetRelease
    split
    next held => exact .release held
    next => exact .nothing _
  | deviceResetEvent => exact ⟨_, rfl, event_move s fun due => Or.inr (.atReply _ (Or.inl rfl) due)⟩
  | startSymbol => exact ⟨_, rfl, event_move s fun _ => startSymbol_move s⟩
  | packetReceptionEnd bytes => exact ⟨_, rfl, event_move s (packetReceptionEnd_move s bytes)⟩
  | silenceTimerExpiry => exact ⟨_, rfl, event_move s (silenceExpiry_move s)⟩
  | idleTimerExpiry => exact ⟨_, rfl, event_move s fun due => Or.inl (idleExpiry_move s due)⟩
  | laneFree => exact ⟨_, rfl, event_move s (laneFree_move s)⟩
  | lineStart => exact ⟨_, rfl, event_move s fun due => Or.inl (lineStart_move s due)⟩
  | activeDataEnd => exact ⟨_, rfl, event_move s fun due => Or.inl (activeDataEnd_move s due)⟩
  | lineEnd => exact ⟨_, rfl, event_move s fun due => Or.inl (lineEnd_move s due)⟩
  | waitLineEnd => exact ⟨_, rfl, event_move s fun due => Or.inl (waitLineEnd_move s due)⟩
  | frameEnd => exact ⟨_, rfl, event_move s fun due => Or.inl (frameEnd_move s due)⟩
  | ping => exact ⟨_, rfl, take_move s _ _ fun _ _ => .nothing _⟩
  | openSession => exact ⟨_, rfl, take_move s _ _ openSessionBody_move⟩
  | closeSession => exact ⟨_, rfl, take_move s _ _ closeSessionBody_move⟩
  | readStatus => exact ⟨_, rfl, take_move s _ _ readStatusBody_move⟩
  | setNotices => exact ⟨_, rfl, take_move s _ _ setNoticesBody_move⟩
  | deviceReset => exact ⟨_, rfl, take_move s _ _ deviceResetBody_move⟩
  | stageRaster => exact ⟨_, rfl, take_move s _ _ stageRasterBody_move⟩
  | stageProgram => exact ⟨_, rfl, take_move s _ _ stageProgramBody_move⟩
  | stageProgramLength => exact ⟨_, rfl, take_move s _ _ stageProgramLengthBody_move⟩
  | stagePattern => exact ⟨_, rfl, take_move s _ _ stagePatternBody_move⟩
  | insertWindow => exact ⟨_, rfl, take_move s _ _ insertWindowBody_move⟩
  | removeWindow => exact ⟨_, rfl, take_move s _ _ removeWindowBody_move⟩
  | moveWindow => exact ⟨_, rfl, take_move s _ _ moveWindowBody_move⟩
  | commit => exact ⟨_, rfl, take_move s _ _ commitBody_move⟩
  | discard => exact ⟨_, rfl, take_move s _ _ discardBody_move⟩
  | readConfig => exact ⟨_, rfl, take_move s _ _ readConfigBody_move⟩
  | writeGlyph => exact ⟨_, rfl, take_move s _ _ writeGlyphBody_move⟩
  | writePalette => exact ⟨_, rfl, take_move s _ _ writePaletteBody_move⟩
  | startOutput => exact ⟨_, rfl, take_move s _ _ startOutputBody_move⟩
  | stopOutput => exact ⟨_, rfl, take_move s _ _ stopOutputBody_move⟩
  | holdOutput => exact ⟨_, rfl, take_move s _ _ holdOutputBody_move⟩
  | resumeOutput => exact ⟨_, rfl, take_move s _ _ resumeOutputBody_move⟩
  | readCounters => exact ⟨_, rfl, take_move s _ _ readCountersBody_move⟩
  | unknownCommand => exact ⟨_, rfl, take_move s _ _ fun _ _ => .nothing _⟩

theorem rowMove_of_exec {i : Instr} {t : State} (h : exec i s = .next t) : RowMove s i t := by
  obtain ⟨u, executed, move⟩ := exec_move i s
  rw [h] at executed
  cases executed
  exact move

/-! ### Properties that every step keeps -/

/-- A property that every row, every advance of the lane and of the two timers, and every change of the queue of waiting
commands keeps. -/
structure StepKept (P : State → Prop) : Prop where
  row : ∀ {s i t}, P s → RowMove s i t → P t
  pending : ∀ {s} (waiting : List Instr), P s → P { s with pending := waiting }
  lane : ∀ {s m k}, P s → s.rlt.lane = .busy m k → P { s with rlt.lane := .busy m (k + 1) }
  silence : ∀ {s k}, P s → s.lrx.silence = some k → k + 1 < 625 → P { s with lrx.silence := some (k + 1) }
  idle : ∀ {s x}, P s → s.mge.session = some x →
    P { s with mge.session := some { x with idleElapsed := x.idleElapsed + 1 } }

section
variable {P : State → Prop} {s t : State}

theorem StepKept.exec_keeps (h : StepKept P) (hP : P s) {i : Instr} {u : State} (executed : exec i s = .next u) : P u :=
  h.row hP (rowMove_of_exec s executed)

theorem StepKept.tickLane_keeps (h : StepKept P) (hP : P s) : P (tickLane s) := by
  unfold tickLane
  split
  · exact hP
  next lane =>
    split
    · exact h.lane hP lane
    · exact h.exec_keeps (i := .laneFree) hP rfl

theorem StepKept.tickSilence_keeps (h : StepKept P) (hP : P s) : P (tickSilence s) := by
  unfold tickSilence
  split
  · exact hP
  next running =>
    split
    next early => exact h.silence hP running early
    next => exact h.exec_keeps (i := .silenceTimerExpiry) hP rfl

theorem StepKept.tickIdle_keeps (h : StepKept P) (hP : P s) : P (tickIdle s) := by
  unfold tickIdle
  split
  · exact hP
  next opened =>
    split
    · exact hP
    · split
      · exact h.idle hP opened
      · exact h.exec_keeps (i := .idleTimerExpiry) hP rfl

theorem StepKept.tick_keeps (h : StepKept P) (hP : P s) : P (tick s) := by
  unfold tick
  split
  · exact hP
  · exact h.tickIdle_keeps (h.tickSilence_keeps (h.tickLane_keeps hP))

/-- One step, of a waiting command or of one byte time, keeps what its parts keep. -/
theorem StepKept.step_keeps (h : StepKept P) (hP : P s) (stepped : step s = .next t) : P t := by
  unfold step at stepped
  split at stepped
  · cases stepped
    exact h.tick_keeps hP
  next rest _ => exact h.exec_keeps (h.pending rest hP) stepped

end

end Sys2Proof.Machine
end

section
/-! SUPPORT. The laws that every step keeps (R125, R148, R118, R121, R81, R17, R30, R51): each is shown for the moves of an
event and of a command's own rule, and the step lemma does the rest. -/

namespace Sys2Proof.Machine

/-! ### Laws of the blocks outside the management and the lane -/

/-- `t` agrees with `s` on the link, the intake, the sequencer, the banks, the generator and the overlay. -/
structure SameCore (s t : State) : Prop where
  lrx : t.lrx = s.lrx
  frames : t.frames = s.frames
  store : t.store = s.store
  lsq : t.lsq = s.lsq
  cfs : t.cfs = s.cfs
  otg : t.otg = s.otg
  ovc : t.ovc = s.ovc

/-- In `t` those blocks hold their reset values; the glyph store and the palette are kept or unknown again (R158). -/
structure ResetCore (s t : State) : Prop where
  lrx : ∃ receiving, t.lrx = Lrx.lost receiving
  frames : t.frames = []
  store : t.store = []
  lsq : t.lsq = State.cleared.lsq
  cfs : t.cfs = State.cleared.cfs
  otg : t.otg = State.cleared.otg
  ovc : t.ovc = { s.ovc with palettePending := [] } ∨ t.ovc = State.cleared.ovc

/-- A law of those blocks that resets, events and commands' own rules keep. -/
structure CoreKept (P : State → Prop) : Prop where
  same : ∀ {s t}, P s → SameCore s t → P t
  reset : ∀ {s t}, P s → ResetCore s t → P t
  silence : ∀ {s k}, P s → s.lrx.silence = some k → k + 1 < 625 → P { s with lrx.silence := some (k + 1) }
  event : ∀ {s i t}, P s → EventMove s i t → P t
  command : ∀ {s c i t}, P s → CommandMove c s i t → P t

theorem SameCore.settle (s : State) : SameCore s s.settle := ⟨rfl, rfl, rfl, rfl, rfl, rfl, rfl⟩

theorem SameCore.answer (s : State) (c : Command) (r : Response) : SameCore s (s.answer c r) :=
  ⟨answer_lrx c r, answer_frames c r, answer_store c r, answer_lsq c r, answer_cfs c r, answer_otg c r, answer_ovc c r⟩

theorem resetCore_powerOnReset (s : State) : ResetCore s (powerOnReset s) := by
  unfold powerOnReset
  split <;> exact ⟨⟨false, rfl⟩, rfl, rfl, rfl, rfl, rfl, Or.inr rfl⟩

theorem DeviceResetMove.resetCore {s t : State} {i : Instr} (move : DeviceResetMove s i t) : ResetCore s t := by
  cases move with
  | atReply => exact ⟨⟨false, rfl⟩, rfl, rfl, rfl, rfl, rfl, Or.inl rfl⟩
  | atLinkReset => exact ⟨⟨_, rfl⟩, rfl, rfl, rfl, rfl, rfl, Or.inl rfl⟩

/-- A take and the arbiter touch none of those blocks, so the moves decide. -/
theorem CoreKept.stepKept {P : State → Prop} (h : CoreKept P) : StepKept P where
  row := fun {s i t} hP move => by
    cases move with
    | powerOnReset => exact h.reset hP (resetCore_powerOnReset s)
    | pinReset => exact h.reset hP ⟨⟨false, rfl⟩, rfl, rfl, rfl, rfl, rfl, Or.inl rfl⟩
    | release => exact h.same hP ⟨rfl, rfl, rfl, rfl, rfl, rfl, rfl⟩
    | nothing => exact hP
    | deviceReset i u _ move => exact h.same (h.reset hP move.resetCore) (.settle u)
    | event i u _ move => exact h.same (h.event hP move) (.settle u)
    | queued => exact h.same hP ⟨rfl, rfl, rfl, rfl, rfl, rfl, rfl⟩
    | carriedOut i c u r _ _ _ move =>
      have popped_law : P (popped s) := h.same hP ⟨rfl, rfl, rfl, rfl, rfl, rfl, rfl⟩
      exact h.same (h.same (h.command popped_law move) (.answer u c r)) (.settle _)
  pending := fun _ hP => h.same hP ⟨rfl, rfl, rfl, rfl, rfl, rfl, rfl⟩
  lane := fun hP _ => h.same hP ⟨rfl, rfl, rfl, rfl, rfl, rfl, rfl⟩
  silence := h.silence
  idle := fun hP _ => h.same hP ⟨rfl, rfl, rfl, rfl, rfl, rfl, rfl⟩

/-! ### The Link Receiver -/

/-- A command arrival touches the Management Engine and MGMT_DROPPED (R144). -/
@[simp] theorem State.commandArrival_frame (s : State) (c : Command) :
    (s.commandArrival c).lrx = s.lrx ∧ (s.commandArrival c).frames = s.frames ∧ (s.commandArrival c).store = s.store
      ∧ (s.commandArrival c).lsq = s.lsq ∧ (s.commandArrival c).cfs = s.cfs ∧ (s.commandArrival c).otg = s.otg
      ∧ (s.commandArrival c).ovc = s.ovc ∧ (s.commandArrival c).rlt = s.rlt
      ∧ (s.commandArrival c).resetHeld = s.resetHeld ∧ (s.commandArrival c).powerOns = s.powerOns
      ∧ (s.commandArrival c).choices = s.choices ∧ (s.commandArrival c).pending = s.pending := by
  unfold State.commandArrival
  split <;> simp

theorem EventMove.lrx {s t : State} {i : Instr} (move : EventMove s i t) (lawful : s.lrx.Lawful) : t.lrx.Lawful := by
  cases move with
  | link _ _ _ keeps => exact keeps lawful
  | badPacket _ _ _ keeps => exact keeps lawful
  | linkLocked _ _ locked => exact locked
  | linkReset => exact ⟨Nat.zero_le 3, rfl, rfl⟩
  | openArrival _ _ keeps => simpa using keeps lawful
  | closeArrival _ _ keeps => simpa using keeps lawful
  | lineArrival _ _ keeps => simpa using keeps lawful
  | commandArrival _ _ keeps => simpa using keeps lawful
  | _ => simpa using lawful

theorem CommandMove.lrx {c : Command} {s t : State} {i : Instr} (move : CommandMove c s i t) : t.lrx = s.lrx := by
  cases move <;> simp

/-- Every step keeps the laws of the Link Receiver (R7 to R9). -/
theorem link_coreKept : CoreKept Safe.Link where
  same := fun law same => (safe_link_iff _).mpr (same.lrx ▸ law)
  reset := fun _ reset => by
    obtain ⟨receiving, lost⟩ := reset.lrx
    rw [safe_link_iff, lost]
    exact ⟨Nat.zero_le 3, rfl, rfl⟩
  silence := fun {s k} law running early => by
    unfold Safe.Link at law ⊢
    cases lock : s.lrx.lock <;> simp only [lock, running] at law ⊢
    · simp at law
    · exact ⟨law.1, law.2.1, k + 1, rfl, early⟩
  event := fun law move => move.lrx law
  command := fun law move => (safe_link_iff _).mpr (move.lrx ▸ law)

/-! ### The LFSR -/

@[simp] theorem noteMissing_lfsr (s : State) : s.noteMissing.lsq.lfsr = s.lsq.lfsr := by
  unfold State.noteMissing
  dsimp only
  split <;> rfl

@[simp] theorem obtain_lfsr (s : State) (r : Raster) : (s.obtain r).1.lsq.lfsr = s.lsq.lfsr := by
  unfold State.obtain
  dsimp only
  split
  · simp
  · split <;> simp

@[simp] theorem dropNumber_lfsr (s : State) : s.dropNumber.lsq.lfsr = s.lsq.lfsr := by simp [State.dropNumber]

/-- The walk of a line reads the LFSR and leaves it alone (R51). -/
@[simp] theorem walkLine_lfsr (s : State) (r : Raster) (e : Entry) (p : Nat) :
    (s.walkLine r e p).1.lsq.lfsr = s.lsq.lfsr := by
  unfold State.walkLine
  split
  · simp [State.showNumber]
  · unfold State.showThin State.showNumber
    dsimp only
    split <;> split <;> simp [State.setCadence]
  · rfl
  · rfl

@[simp] theorem release_lfsr (s : State) : s.release.lsq.lfsr = s.lsq.lfsr := by
  unfold State.release
  split <;> rfl

@[simp] theorem coast_lfsr (s : State) : s.coast.lsq.lfsr = s.lsq.lfsr := by
  unfold State.coast
  dsimp only
  split <;> rfl

@[simp] theorem enterOff_lfsr (s : State) : s.enterOff.lsq.lfsr = s.lsq.lfsr := by simp [State.enterOff]

@[simp] theorem dropLink_lfsr (s : State) : s.dropLink.lsq.lfsr = s.lsq.lfsr := by
  cases session : s.mge.session with
  | none => rw [dropLink_of_closed session]; rfl
  | some x => rw [dropLink_of_open session]; rfl

/-- Every frame start advances the LFSR once (R50). -/
@[simp] theorem frameStartFree_lfsr (s : State) : s.frameStartFree.lsq.lfsr = lfsrAdvance s.lsq.lfsr := by
  unfold State.frameStartFree
  split <;> simp [State.beginFrame]

@[simp] theorem frameStartReady_lfsr (s : State) (p : Nat) (t : Byte) :
    (s.frameStartReady p t).lsq.lfsr = lfsrAdvance s.lsq.lfsr := by
  simp [State.frameStartReady, State.beginFrame]

@[simp] theorem frameStartCoast_lfsr (s : State) : s.frameStartCoast.lsq.lfsr = lfsrAdvance s.lsq.lfsr := by
  simp [State.frameStartCoast, State.beginFrame]

theorem safe_lfsr_iff (s : State) : Safe.Lfsr s ↔ s.lsq.lfsr ≠ 0 := Iff.rfl

/-- Every step keeps the LFSR from 0 (R51). -/
theorem lfsr_coreKept : CoreKept Safe.Lfsr where
  same := fun law same => (safe_lfsr_iff _).mpr (same.lsq ▸ law)
  reset := fun _ reset => by
    unfold Safe.Lfsr
    rw [reset.lsq]
    decide
  silence := fun law _ _ => law
  event := fun {s i t} law move => by
    have same_or_advanced : t.lsq.lfsr = s.lsq.lfsr ∨ t.lsq.lfsr = lfsrAdvance s.lsq.lfsr := by
      cases move with
      | waitFree | waitReady | waitCoast | frameEndFree => exact Or.inr (by simp)
      | linkReset _ _ _ _ packet => exact Or.inl (by rcases packet with rfl | rfl <;> simp)
      | _ => exact Or.inl (by simp)
    rcases same_or_advanced with same | advanced
    · exact (safe_lfsr_iff t).mpr (same ▸ law)
    · exact (safe_lfsr_iff t).mpr (advanced ▸ lfsrAdvance_ne_zero law)
  command := fun {s c i t} law move => by
    have same_or_advanced : t.lsq.lfsr = s.lsq.lfsr ∨ t.lsq.lfsr = lfsrAdvance s.lsq.lfsr := by
      cases move with
      | startFree | resumeFree => exact Or.inr (by simp)
      | _ => exact Or.inl (by simp)
    rcases same_or_advanced with same | advanced
    · exact (safe_lfsr_iff t).mpr (same ▸ law)
    · exact (safe_lfsr_iff t).mpr (advanced ▸ lfsrAdvance_ne_zero law)

/-! ### The banks -/

/-- The law of the banks as a predicate on the Configuration Store alone (R125, R137). -/
def Cfs.Lawful (c : Cfs) : Prop :=
  (∀ b, c.active = some b → b.validate = none) ∧ (c.commitPending.isSome = true → c.staging.validate = none)

theorem safe_configuration_iff (s : State) : Safe.Configuration s ↔ s.cfs.Lawful := Iff.rfl

/-- Setting the staging bank while no commit is pending keeps the law, whatever the bank. -/
theorem Cfs.Lawful.stage {c : Cfs} (law : c.Lawful) (unlocked : c.commitPending = none) (bank : Bank) :
    Cfs.Lawful { c with staging := bank } :=
  ⟨law.1, fun pending => by simp [unlocked] at pending⟩

theorem Cfs.Lawful.atSessionClose {c : Cfs} (law : c.Lawful) : c.atSessionClose.Lawful := by
  unfold Cfs.atSessionClose
  split
  next unlocked => exact law.stage (by simpa using unlocked) _
  next => exact law

/-- A staging bank that passed the checks may become the active bank. -/
theorem Cfs.lawful_applyCommit {c : Cfs} (valid : c.staging.validate = none) : c.applyCommit.Lawful :=
  ⟨fun b active => by cases active; exact valid, fun pending => by simp at pending⟩

theorem applyPendingCommit_lawful {s : State} (law : s.cfs.Lawful) : s.applyPendingCommit.cfs.Lawful := by
  unfold State.applyPendingCommit
  split
  · exact law
  next pending => exact Cfs.lawful_applyCommit (law.2 (by simp [pending]))

theorem dropLink_lawful {s : State} (law : s.cfs.Lawful) : s.dropLink.cfs.Lawful := by
  cases session : s.mge.session with
  | none => rw [dropLink_of_closed session]; exact law
  | some x => rw [dropLink_of_open session]; exact law.atSessionClose

/-- The entry to OFF changes the banks by the pending commit alone (R98). -/
@[simp] theorem enterOff_cfs (s : State) : s.enterOff.cfs = s.applyPendingCommit.cfs := by simp [State.enterOff]

theorem enterOff_lawful {s : State} (law : s.cfs.Lawful) : s.enterOff.cfs.Lawful :=
  enterOff_cfs s ▸ applyPendingCommit_lawful law

/-- Every step keeps the law of the banks (R125, R137). -/
theorem configuration_coreKept : CoreKept Safe.Configuration where
  same := fun law same => (safe_configuration_iff _).mpr (same.cfs ▸ law)
  reset := fun _ reset => by
    rw [safe_configuration_iff, reset.cfs]
    exact ⟨fun _ active => by simp [State.cleared] at active, fun pending => by simp [State.cleared] at pending⟩
  silence := fun law _ _ => law
  event := fun {s i t} law move => by
    rw [safe_configuration_iff] at law ⊢
    have released : s.release.cfs.Lawful := by simpa using law
    cases move with
    | linkReset _ _ _ _ packet => exact dropLink_lawful (by rcases packet with rfl | rfl <;> simpa using law)
    | idleExpiry => exact Cfs.Lawful.atSessionClose law
    | frameEndOff => exact enterOff_lawful (applyPendingCommit_lawful released)
    | frameEndHeld | frameEndWait | frameEndFree => simpa using applyPendingCommit_lawful released
    | _ => simpa using law
  command := fun {s c i t} law move => by
    rw [safe_configuration_iff] at law ⊢
    cases move with
    | takeOver | closeSession => exact Cfs.Lawful.atSessionClose law
    | stage _ bank unlocked => exact Cfs.Lawful.stage law unlocked bank
    | commitLater valid => exact ⟨law.1, fun _ => valid⟩
    | commitNow valid => exact Cfs.lawful_applyCommit valid
    | discard => exact ⟨law.1, fun pending => by simp at pending⟩
    | stop => exact enterOff_lawful law
    | _ => simpa using law

/-! ### The glyph store and the palette -/

/-- The laws of the memories as a predicate on the compositor alone (R118, R121, R122). -/
def Ovc.Lawful (o : Ovc) : Prop :=
  Memory.wf o.glyphs = true ∧ Cells.wf 256 o.palette = true
    ∧ ∀ item ∈ o.palettePending, item.first + item.colours.length ≤ 256

theorem safe_memories_iff (s : State) : Safe.Memories s ↔ s.ovc.Lawful := Iff.rfl

theorem wf_applyItems (items : List PaletteItem) (palette : List (Nat × Pixel)) (wf : Cells.wf 256 palette = true)
    (fits : ∀ item ∈ items, item.first + item.colours.length ≤ 256) :
    Cells.wf 256 (items.foldl applyItem palette) = true := by
  induction items generalizing palette with
  | nil => exact wf
  | cons item rest ih =>
    rw [List.foldl_cons]
    exact ih _ (Cells.wf_writeFrom 256 _ _ _ wf (fits item List.mem_cons_self))
      fun x hx => fits x (List.mem_cons_of_mem _ hx)

theorem Ovc.Lawful.applyPalette {o : Ovc} (law : o.Lawful) : o.applyPalette.Lawful :=
  ⟨law.1, wf_applyItems _ _ law.2.1 law.2.2, fun item none => by simp at none⟩

@[simp] theorem enterOff_ovc (s : State) : s.enterOff.ovc = s.ovc.applyPalette := by simp [State.enterOff]

/-- Every step keeps the canonical form of the memories (R118, R121, R122). -/
theorem memories_coreKept : CoreKept Safe.Memories where
  same := fun law same => (safe_memories_iff _).mpr (same.ovc ▸ law)
  reset := fun {s t} law reset => by
    rw [safe_memories_iff]
    rcases reset.ovc with kept | unknown
    · rw [kept]
      exact ⟨law.1, law.2.1, fun item none => by simp at none⟩
    · rw [unknown]
      exact ⟨rfl, rfl, fun item none => by simp [State.cleared] at none⟩
  silence := fun law _ _ => law
  event := fun {s i t} law move => by
    rw [safe_memories_iff] at law ⊢
    cases move with
    | dataEnd => exact law.applyPalette
    | lineHold | frameEndOff | frameEndHeld | frameEndWait => simpa using law.applyPalette
    | linkReset _ _ _ _ packet => rcases packet with rfl | rfl <;> simpa using law
    | _ => simpa using law
  command := fun {s c i t} law move => by
    rw [safe_memories_iff] at law ⊢
    cases move with
    | writeGlyph address data fits => exact ⟨Cells.wf_writeFrom 16384 _ _ _ law.1 fits, law.2⟩
    | palettePending item fits =>
      refine ⟨law.1, law.2.1, fun x hx => ?_⟩
      rcases List.mem_append.mp hx with old | new
      · exact law.2.2 x old
      · rwa [List.mem_singleton.mp new]
    | paletteNow item fits => exact ⟨law.1, Cells.wf_writeFrom 256 _ _ _ law.2.1 fits, law.2.2⟩
    | startWait | stop | hold | resumeWait => simpa using law.applyPalette
    | _ => simpa using law

end Sys2Proof.Machine
end

section
/-! SUPPORT. The laws of the output states and of the line position (R81, R94, R124), given the law of the banks. -/

namespace Sys2Proof.Machine

/-! ### The generator after the shared operations -/

/-- The generator after a frame start (R61, R83, R99). -/
def Otg.begun (o : Otg) : Otg :=
  { o with output := .active, holdPosition := .none, linePosition := 0, frameNumber := o.frameNumber + 1,
           phase := .lineStartDue }

/-- The generator after an entry to OFF (R98). -/
def Otg.stopped (o : Otg) : Otg :=
  { o with output := .off, holdPending := none, stopPending := false, holdPosition := .none, linePosition := 0,
           waitCount := 0, phase := .idle }

/-- The generator after an entry to WAIT_FRAME (R91, R95, R96). -/
def Otg.waiting (o : Otg) : Otg :=
  { o with output := .waitFrame, holdPosition := .none, waitCount := 0, phase := .lineStartDue }

/-- The generator after an entry to HELD (R93, R94, R96). -/
def Otg.heldAt (o : Otg) (position : HoldPosition) : Otg :=
  { o with output := .held, holdPending := none, holdPosition := position, phase := .idle }

section
variable (s : State)

@[simp] theorem frameStartFree_otg : s.frameStartFree.otg = s.otg.begun := by
  unfold State.frameStartFree
  split
  · rw [State.bindFrame_otg]; rfl
  · rw [(State.coast_frame _).2.2.2.2.1]; rfl

@[simp] theorem frameStartReady_otg (p : Nat) (t : Byte) : (s.frameStartReady p t).otg = s.otg.begun := by
  simp [State.frameStartReady]
  rfl

@[simp] theorem frameStartCoast_otg : s.frameStartCoast.otg = s.otg.begun := by
  simp [State.frameStartCoast]
  rfl

@[simp] theorem enterOff_otg : s.enterOff.otg = s.otg.stopped := by
  simp [State.enterOff, Otg.stopped]

@[simp] theorem enterWaitFrame_otg : s.enterWaitFrame.otg = s.otg.waiting := rfl

@[simp] theorem enterHeld_otg (k : HoldKind) (p : HoldPosition) : (s.enterHeld k p).otg = s.otg.heldAt p := rfl

@[simp] theorem dropLink_active : s.dropLink.cfs.active = s.cfs.active := by
  cases session : s.mge.session with
  | none => rw [dropLink_of_closed session]; rfl
  | some x => rw [dropLink_of_open session]; exact Cfs.atSessionClose_active _

/-- The application of a pending commit leaves a bank that is not empty. -/
theorem applyPendingCommit_active_isSome {s : State} (bank : s.cfs.active.isSome = true) :
    s.applyPendingCommit.cfs.active.isSome = true := by
  unfold State.applyPendingCommit
  split
  · exact bank
  · rfl

end

/-! ### The output states -/

/-- The laws of the output states as a predicate on the generator, whether the active bank is filled, and the pending
palette list (R81, R95, R96, R98, R124). -/
def Otg.Lawful (o : Otg) (bank : Bool) (palette : List PaletteItem) : Prop :=
  (o.output ≠ .off → bank = true)
    ∧ ¬(o.holdPending.isSome = true ∧ o.stopPending = true)
    ∧ (o.output ≠ .active → o.holdPending = none ∧ o.stopPending = false ∧ palette = [])
    ∧ (o.output ≠ .held ↔ o.holdPosition = .none)
    ∧ (o.output = .off ∨ o.output = .held ↔ o.phase = .idle)
    ∧ (o.phase = .frameEndDue → o.output = .active)
    ∧ o.waitCount ≤ 4095

theorem safe_output_iff (s : State) : Safe.Output s ↔ s.otg.Lawful s.cfs.active.isSome s.ovc.palettePending := Iff.rfl

section
variable {o : Otg} {bank : Bool} {palette : List PaletteItem}

theorem Otg.stopped_lawful (o : Otg) (bank : Bool) : o.stopped.Lawful bank [] := by
  simp [Otg.Lawful, Otg.stopped]

/-- A frame start keeps the requests and the pending palette list. -/
theorem Otg.Lawful.begun (law : o.Lawful bank palette) (filled : bank = true) (pending : List PaletteItem) :
    o.begun.Lawful bank pending := by
  obtain ⟨-, requests, -, -, -, -, count⟩ := law
  exact ⟨fun _ => filled, requests, fun inactive => absurd rfl inactive, by simp [Otg.begun], by simp [Otg.begun],
    by simp [Otg.begun], count⟩

theorem Otg.waiting_lawful (filled : bank = true) (noHold : o.holdPending = none) (noStop : o.stopPending = false) :
    o.waiting.Lawful bank [] := by
  simp [Otg.Lawful, Otg.waiting, filled, noHold, noStop]

theorem Otg.Lawful.heldAt (law : o.Lawful bank palette) (filled : bank = true) (noStop : o.stopPending = false)
    {position : HoldPosition} (reached : position ≠ .none) : (o.heldAt position).Lawful bank [] := by
  obtain ⟨-, -, -, -, -, -, count⟩ := law
  simp [Otg.Lawful, Otg.heldAt, filled, noStop, reached, count]

/-- While lines are produced the next event may change, but for the frame end outside ACTIVE. -/
theorem Otg.Lawful.phase (law : o.Lawful bank palette) (output : o.output = .active ∨ o.output = .waitFrame)
    {phase : Phase} (producing : phase ≠ .idle) (frameEnd : phase = .frameEndDue → o.output = .active)
    (palette' : List PaletteItem) (same : o.output = .active ∨ palette' = palette) :
    Otg.Lawful { o with phase := phase } bank palette' := by
  obtain ⟨filled, requests, quiet, position, -, -, count⟩ := law
  refine ⟨filled, requests, fun inactive => ?_, position, ?_, frameEnd, count⟩
  · rcases same with active | same
    · exact absurd active inactive
    · exact same ▸ quiet inactive
  · rcases output with running | running <;> simp [running, producing]

/-- Raising the wait count keeps the laws. -/
theorem Otg.Lawful.countWait (law : o.Lawful bank palette) :
    Otg.Lawful { o with waitCount := min (o.waitCount + 1) 4095 } bank palette := by
  obtain ⟨filled, requests, quiet, position, idle, frameEnd, -⟩ := law
  exact ⟨filled, requests, quiet, position, idle, frameEnd, Nat.min_le_right _ _⟩

/-- In ACTIVE the requests may change, not to both, and palette items may wait. -/
theorem Otg.Lawful.request (law : o.Lawful bank palette) (active : o.output = .active) (hold : Option HoldKind)
    (stop : Bool) (one : ¬(hold.isSome = true ∧ stop = true)) (palette' : List PaletteItem) :
    Otg.Lawful { o with holdPending := hold, stopPending := stop } bank palette' := by
  obtain ⟨filled, -, -, position, idle, frameEnd, count⟩ := law
  exact ⟨filled, one, fun inactive => absurd active inactive, position, idle, frameEnd, count⟩

end

/-- Every step keeps the laws of the output states (R81, R95, R96, R98, R124). -/
theorem output_coreKept : CoreKept Safe.Output where
  same := fun {s t} law same => by
    rw [safe_output_iff, same.otg, same.cfs, same.ovc]
    exact law
  reset := fun {s t} _ reset => by
    have noPending : t.ovc.palettePending = [] := by
      rcases reset.ovc with kept | unknown
      · rw [kept]
      · rw [unknown]; rfl
    rw [safe_output_iff, reset.otg, reset.cfs, noPending]
    exact Otg.stopped_lawful State.cleared.otg false
  silence := fun law _ _ => law
  event := fun {s i t} law move => by
    rw [safe_output_iff] at law ⊢
    have filled (out : s.otg.output ≠ .off) : s.cfs.active.isSome = true := law.1 out
    have applied (out : s.otg.output ≠ .off) : s.release.applyPendingCommit.cfs.active.isSome = true :=
      applyPendingCommit_active_isSome (by simpa using filled out)
    cases move with
    | linkReset _ _ _ _ packet => rcases packet with rfl | rfl <;> simpa using law
    | quietLine l _ output => exact law.phase output (by simp) (by simp) _ (Or.inr rfl)
    | activeLine _ _ _ l _ active =>
      simpa using law.phase (phase := .inLine l) (Or.inl active) (by simp) (by simp) _ (Or.inr rfl)
    | dataEnd l active => exact law.phase (Or.inl active) (by simp) (by simp) _ (Or.inl active)
    | lastLineEnd active => exact law.phase (Or.inl active) (by simp) (fun _ => active) _ (Or.inr rfl)
    | lineHold active _ requested =>
      have noStop : s.otg.stopPending = false := by simpa [requested] using law.2.1
      exact law.heldAt (filled (by simp [active])) noStop (by simp)
    | nextLine active =>
      have next := law.phase (phase := .lineStartDue) (Or.inl active) (by simp) (by simp) _ (Or.inr rfl)
      exact next
    | waitNoBank => exact law.countWait
    | nextWaitLine waiting => exact law.countWait.phase (Or.inr waiting) (by simp) (by simp) _ (Or.inr rfl)
    | waitFree waiting | waitReady waiting | waitCoast waiting =>
      simpa [State.countWaitLine] using law.countWait.begun (filled (by simp [waiting])) _
    | frameEndOff => simpa using Otg.stopped_lawful s.otg _
    | frameEndHeld active noStop kind =>
      have filled : s.cfs.active.isSome = true := filled (by simp [active])
      simpa [applied (by simp [active]), filled] using law.heldAt filled noStop (by simp : HoldPosition.boundary ≠ .none)
    | frameEndWait active noStop noHold =>
      simpa using Otg.waiting_lawful (applied (by simp [active])) noHold noStop
    | frameEndFree active =>
      have filled : s.cfs.active.isSome = true := filled (by simp [active])
      simpa [applied (by simp [active]), filled] using law.begun filled s.ovc.palettePending
    | _ => simpa using law
  command := fun {s c i t} law move => by
    rw [safe_output_iff] at law ⊢
    obtain ⟨filled, requests, quiet, position, idle, frameEnd, count⟩ := id law
    cases move with
    | commitNow => exact ⟨fun _ => rfl, requests, quiet, position, idle, frameEnd, count⟩
    | palettePending _ _ active => exact law.request active _ _ requests _
    | startWait off bank =>
      obtain ⟨noHold, noStop, -⟩ := quiet (by simp [off])
      exact Otg.waiting_lawful bank noHold noStop
    | startFree off bank => simpa using law.begun bank s.ovc.palettePending
    | requestStop active => exact law.request active none true (by simp) _
    | stop => simpa using Otg.stopped_lawful s.otg _
    | requestHold kind active noStop => exact law.request active (some kind) s.otg.stopPending (by simp [noStop]) _
    | hold kind waiting =>
      obtain ⟨-, noStop, -⟩ := quiet (by simp [waiting])
      simp [Otg.Lawful, Otg.heldAt, State.discardWaitCount, noStop, filled (by simp [waiting])]
    | cancelHold active => exact law.request active none s.otg.stopPending (by simp) _
    | resumeFrame line held =>
      have filled := filled (by simp [held])
      exact ⟨fun _ => filled, requests, fun inactive => absurd rfl inactive, by simp [State.resumeFrame],
        by simp [State.resumeFrame], by simp [State.resumeFrame], count⟩
    | resumeWait held =>
      obtain ⟨noHold, noStop, -⟩ := quiet (by simp [held])
      exact Otg.waiting_lawful (filled (by simp [held])) noHold noStop
    | resumeFree held => simpa using law.begun (filled (by simp [held])) s.ovc.palettePending
    | _ => simpa using law

/-! ### The line position -/

/-- The laws of the line position as a predicate on the generator and the active bank (R81, R94). -/
def Otg.InFrame (o : Otg) (active : Option Bank) : Prop :=
  ∀ b, active = some b →
    (o.output = .active → o.linePosition < b.raster.frameTotal)
      ∧ ∀ n, o.holdPosition = .midFrame n → n = o.linePosition + 1 ∧ n < b.raster.frameTotal

theorem safe_position_iff (s : State) : Safe.Position s ↔ s.otg.InFrame s.cfs.active := Iff.rfl

/-- Where no output frame is in progress the line position is free. -/
theorem Otg.inFrame_of_noFrame {o : Otg} (inactive : o.output ≠ .active) (noLine : ∀ n, o.holdPosition ≠ .midFrame n)
    (active : Option Bank) : o.InFrame active := fun _ _ =>
  ⟨fun h => absurd h inactive, fun n h => absurd h (noLine n)⟩

/-- An output frame is in progress in ACTIVE and in a mid-frame hold (R137). -/
theorem Otg.frameInProgress_iff (o : Otg) :
    o.frameInProgress = true ↔ o.output = .active ∨ o.output = .held ∧ ∃ n, o.holdPosition = .midFrame n := by
  unfold Otg.frameInProgress
  split <;> simp [*]

/-- Line 0 lies within the frame of a bank that passed validation. -/
theorem Otg.begun_inFrame (o : Otg) {c : Cfs} (law : c.Lawful) : o.begun.InFrame c.active := fun b active => by
  obtain ⟨height, total, -⟩ := geometry_of_valid (law.1 b active)
  exact ⟨fun _ => by show 0 < _; omega, fun n h => by simp [Otg.begun] at h⟩

/-- FT of the active bank, as the line end reads it. -/
theorem frameTotal_of_active {s : State} {b : Bank} (active : s.cfs.active = some b) :
    s.frameTotal = b.raster.frameTotal := by
  simp [State.frameTotal, active]

/-- The laws that the line position rests on, with its own. -/
def Safe.Frame (s : State) : Prop := Safe.Configuration s ∧ Safe.Output s ∧ Safe.Position s

theorem event_position {s t : State} {i : Instr} (law : Safe.Frame s) (move : EventMove s i t) : Safe.Position t := by
  obtain ⟨banks, output, position⟩ := law
  rw [safe_position_iff] at position ⊢
  rw [safe_configuration_iff] at banks
  cases move with
  | linkReset _ _ _ _ packet => rcases packet with rfl | rfl <;> simpa using position
  | lineHold _ before =>
    intro b active
    have total := frameTotal_of_active (s := s) active
    refine ⟨fun h => by simp [Otg.heldAt] at h, fun n h => ?_⟩
    cases h
    exact ⟨rfl, total ▸ before⟩
  | nextLine running before =>
    intro b active
    have total := frameTotal_of_active (s := s) active
    refine ⟨fun _ => total ▸ before, fun n h => ?_⟩
    have nowhere : s.otg.holdPosition = .none := output.2.2.2.1.mp (by simp [running])
    exact absurd (h.symm.trans nowhere) (by simp)
  | quietLine | dataEnd | lastLineEnd | waitNoBank | nextWaitLine => exact position
  | activeLine _ _ _ l =>
    have moved : Otg.InFrame { s.otg with phase := .inLine l } s.cfs.active := position
    simpa using moved
  | waitFree | waitReady | waitCoast => simpa using Otg.begun_inFrame _ banks
  | frameEndOff => exact Otg.inFrame_of_noFrame (by simp [Otg.stopped]) (by simp [Otg.stopped]) _
  | frameEndHeld => exact Otg.inFrame_of_noFrame (by simp [Otg.heldAt]) (by simp [Otg.heldAt]) _
  | frameEndWait => exact Otg.inFrame_of_noFrame (by simp [Otg.waiting]) (by simp [Otg.waiting]) _
  | frameEndFree =>
    have applied : s.release.applyPendingCommit.cfs.Lawful := applyPendingCommit_lawful (by simpa using banks)
    simpa using Otg.begun_inFrame s.otg applied
  | _ => simpa using position

theorem command_position {c : Command} {s t : State} {i : Instr} (law : Safe.Frame s) (move : CommandMove c s i t) :
    Safe.Position t := by
  obtain ⟨banks, output, position⟩ := law
  rw [safe_position_iff] at position ⊢
  rw [safe_configuration_iff] at banks
  cases move with
  | commitNow _ noFrame =>
    have nowhere : s.otg.output ≠ .held → s.otg.holdPosition = .none := output.2.2.2.1.mp
    have noFrame : ¬(s.otg.output = .active ∨ s.otg.output = .held ∧ ∃ n, s.otg.holdPosition = .midFrame n) :=
      fun h => by simp [s.otg.frameInProgress_iff.mpr h] at noFrame
    refine Otg.inFrame_of_noFrame (fun h => noFrame (Or.inl h)) (fun n h => ?_) _
    by_cases held : s.otg.output = .held
    · exact noFrame (Or.inr ⟨held, n, h⟩)
    · simp [nowhere held] at h
  | startWait | resumeWait => exact Otg.inFrame_of_noFrame (by simp [Otg.waiting]) (by simp [Otg.waiting]) _
  | startFree | resumeFree => simpa using Otg.begun_inFrame s.otg banks
  | stop => exact Otg.inFrame_of_noFrame (by simp [Otg.stopped]) (by simp [Otg.stopped]) _
  | hold => exact Otg.inFrame_of_noFrame (by simp [Otg.heldAt]) (by simp [Otg.heldAt]) _
  | resumeFrame line _ resume =>
    intro b active
    obtain ⟨-, within⟩ := (position b active).2 line resume
    exact ⟨fun _ => within, fun n h => by simp [State.resumeFrame] at h⟩
  | requestStop | requestHold | cancelHold => exact position
  | _ => simpa using position

/-- Every step keeps the laws of the output states and of the line position, with the law of the banks. -/
theorem frame_coreKept : CoreKept Safe.Frame where
  same := fun {s t} law same => ⟨configuration_coreKept.same law.1 same, output_coreKept.same law.2.1 same, by
    rw [safe_position_iff, same.otg, same.cfs]
    exact law.2.2⟩
  reset := fun {s t} law reset => ⟨configuration_coreKept.reset law.1 reset, output_coreKept.reset law.2.1 reset, by
    rw [safe_position_iff, reset.otg]
    exact Otg.inFrame_of_noFrame (by simp [State.cleared]) (by simp [State.cleared]) _⟩
  silence := fun law _ _ => law
  event := fun law move =>
    ⟨configuration_coreKept.event law.1 move, output_coreKept.event law.2.1 move, event_position law move⟩
  command := fun law move =>
    ⟨configuration_coreKept.command law.1 move, output_coreKept.command law.2.1 move, command_position law move⟩

/-- Settles O58. -/
theorem stepKeepsOutputLaw : Obligations.StepKeepsOutputLaw := fun _ _ banks law stepped =>
  (frame_coreKept.stepKept.step_keeps ⟨banks, law⟩ stepped).2

end Sys2Proof.Machine
end

section
/-! SUPPORT. The input frame list and the line store in agreement with each other and with the binding (R17, R30, R60). -/

namespace Sys2Proof.Machine

/-! ### The law of the intake -/

/-- A frame record against its lines in the store (R17, R30). -/
def FrameRecord.Agrees (r : FrameRecord) (lines : List LineRecord) : Prop :=
  r.stored = lines.length ∧ (lines.map (·.number)).Pairwise (· < ·)
    ∧ ∀ l ∈ lines, ∃ h, r.highest = some h ∧ l.number ≤ h

/-- The line store against the frame list, as a predicate on the two lists. -/
def StoreAgrees (frames : List FrameRecord) (store : List LineRecord) : Prop :=
  (∀ l ∈ store, ∃ r ∈ frames, r.tag = l.tag) ∧ ∀ r ∈ frames, r.Agrees (linesOf r.tag store)

/-- The frame list, the line store and the binding (R17, R30, R60). -/
structure IntakeLawful (frames : List FrameRecord) (store : List LineRecord) (bound : Option Byte) : Prop where
  few : frames.length ≤ 3
  distinct : (frames.map (·.tag)).Nodup
  binding : Safe.boundAgrees bound frames
  lines : StoreAgrees frames store

/-- When the frame list is empty, and when nothing may be bound (R19, R61). -/
def Otg.Idles (o : Otg) (frames : List FrameRecord) (bound : Option Byte) : Prop :=
  (o.output = .off → frames = []) ∧ (o.output = .waitFrame ∨ o.holdPosition = .boundary → bound = none)

theorem safe_intake_iff (s : State) : Safe.FrameList s ∧ Safe.LineStore s
    ↔ IntakeLawful s.frames s.store s.lsq.bound ∧ s.otg.Idles s.frames s.lsq.bound := by
  constructor
  · rintro ⟨⟨few, distinct, binding, idles⟩, lines⟩
    exact ⟨⟨few, distinct, binding, lines⟩, idles⟩
  · rintro ⟨⟨few, distinct, binding, lines⟩, idles⟩
    exact ⟨⟨few, distinct, binding, idles⟩, lines⟩

theorem intakeLawful_nil : IntakeLawful [] [] none :=
  ⟨Nat.zero_le 3, List.nodup_nil, by simp [Safe.boundAgrees], by simp [StoreAgrees]⟩

section
variable {frames : List FrameRecord} {store : List LineRecord} {bound : Option Byte} {t : Byte}

/-! ### The lines of one frame -/

theorem linesOf_append_same (l : LineRecord) (store : List LineRecord) :
    linesOf l.tag (store ++ [l]) = linesOf l.tag store ++ [l] := by
  simp [linesOf]

theorem linesOf_append_other {u : Byte} (l : LineRecord) (store : List LineRecord) (other : u ≠ l.tag) :
    linesOf u (store ++ [l]) = linesOf u store := by
  simp [linesOf, Ne.symm other]

/-- Taking the oldest line of a frame out of the store takes it out of the frame's lines (R31). -/
theorem linesOf_eraseP_same (t : Byte) (store : List LineRecord) :
    linesOf t (store.eraseP (·.tag == t)) = (linesOf t store).tail := by
  induction store with
  | nil => rfl
  | cons l rest ih =>
    by_cases own : l.tag = t
    · simp [linesOf, own]
    · simpa [linesOf, own] using ih

theorem linesOf_eraseP_other {u : Byte} (store : List LineRecord) (other : u ≠ t) :
    linesOf u (store.eraseP (·.tag == t)) = linesOf u store := by
  induction store with
  | nil => rfl
  | cons l rest ih =>
    by_cases own : l.tag = t
    · simp [linesOf, own, Ne.symm other]
    · by_cases here : l.tag = u
      · subst here
        simpa [linesOf, own] using ih
      · simpa [linesOf, own, here] using ih

theorem linesOf_filter {keep : Byte → Bool} {u : Byte} (kept : keep u = true) (store : List LineRecord) :
    linesOf u (store.filter fun l => keep l.tag) = linesOf u store := by
  rw [linesOf, linesOf, List.filter_filter]
  refine List.filter_congr fun l _ => ?_
  by_cases here : l.tag = u <;> simp [here, kept]

/-! ### One record by its tag -/

/-- With distinct tags the record that a tag finds is the only one of that tag. -/
theorem eq_of_tag (distinct : (frames.map (·.tag)).Nodup) {r x : FrameRecord}
    (found : frames.find? (·.tag == t) = some r) (mem : x ∈ frames) (tag : x.tag = t) : x = r := by
  have here : r.tag = t := by simpa using List.find?_some found
  exact List.inj_on_of_nodup_map distinct mem (List.mem_of_find?_eq_some found) (tag.trans here.symm)

/-- Changing a record where it stands keeps the tags and the binding when the change keeps both. -/
theorem map_tag_updateFrame (f : FrameRecord → FrameRecord) (same : ∀ r, (f r).tag = r.tag) :
    (updateFrame t f frames).map (·.tag) = frames.map (·.tag) := by
  simp only [updateFrame, List.map_map]
  refine List.map_congr_left fun r _ => ?_
  by_cases own : r.tag = t <;> simp [own, same]

theorem boundAgrees_updateFrame (f : FrameRecord → FrameRecord)
    (same : ∀ r, (f r).tag = r.tag ∧ (f r).bound = r.bound) (law : Safe.boundAgrees bound frames) :
    Safe.boundAgrees bound (updateFrame t f frames) := by
  have kept (r : FrameRecord) : (if r.tag = t then f r else r).tag = r.tag
      ∧ (if r.tag = t then f r else r).bound = r.bound := by
    split
    · exact same r
    · exact ⟨rfl, rfl⟩
  cases bound with
  | none =>
    intro x hx
    obtain ⟨r, hr, rfl⟩ := List.mem_map.mp hx
    exact (kept r).2.trans (law r hr)
  | some u =>
    obtain ⟨r, rest, rfl, tag, bound, others⟩ := law
    refine ⟨_, _, rfl, (kept r).1.trans tag, (kept r).2.trans bound, fun x hx => ?_⟩
    obtain ⟨y, hy, rfl⟩ := List.mem_map.mp hx
    exact (kept y).2.trans (others y hy)

/-- Changing one record and its own lines keeps the agreement of the rest. -/
theorem StoreAgrees.update {store' : List LineRecord} (law : StoreAgrees frames store) (f : FrameRecord → FrameRecord)
    (same : ∀ r, (f r).tag = r.tag) (other : ∀ u, u ≠ t → linesOf u store' = linesOf u store)
    (own : ∀ r ∈ frames, r.tag = t → r.Agrees (linesOf t store) → (f r).Agrees (linesOf t store'))
    (lines : ∀ l ∈ store', ∃ r ∈ frames, r.tag = l.tag) : StoreAgrees (updateFrame t f frames) store' := by
  refine ⟨fun l hl => ?_, fun x hx => ?_⟩
  · obtain ⟨r, hr, tag⟩ := lines l hl
    refine ⟨_, List.mem_map_of_mem hr, ?_⟩
    split
    · exact (same r).trans tag
    · exact tag
  · obtain ⟨r, hr, rfl⟩ := List.mem_map.mp hx
    have agrees := law.2 r hr
    split
    next tag =>
      rw [same, tag]
      exact own r hr tag (tag ▸ agrees)
    next tag =>
      rw [other r.tag tag]
      exact agrees

/-- Changing one record and its own lines keeps the intake in agreement. -/
theorem IntakeLawful.update {store' : List LineRecord} (law : IntakeLawful frames store bound)
    (f : FrameRecord → FrameRecord) (same : ∀ r, (f r).tag = r.tag ∧ (f r).bound = r.bound)
    (other : ∀ u, u ≠ t → linesOf u store' = linesOf u store)
    (own : ∀ r ∈ frames, r.tag = t → r.Agrees (linesOf t store) → (f r).Agrees (linesOf t store'))
    (lines : ∀ l ∈ store', ∃ r ∈ frames, r.tag = l.tag) : IntakeLawful (updateFrame t f frames) store' bound where
  few := by simpa [updateFrame] using law.few
  distinct := by
    rw [map_tag_updateFrame f fun r => (same r).1]
    exact law.distinct
  binding := boundAgrees_updateFrame f same law.binding
  lines := law.lines.update f (fun r => (same r).1) other own lines

/-! ### Arrivals -/

/-- A CLOSE changes the state of a record, of which the agreement says nothing. -/
theorem IntakeLawful.close (law : IntakeLawful frames store bound) :
    IntakeLawful (updateFrame t (fun r => { r with state := .closed }) frames) store bound :=
  law.update _ (fun _ => ⟨rfl, rfl⟩) (fun _ _ => rfl) (fun _ _ _ agrees => agrees) law.lines.1

/-- A line lost to overflow raises the highest number received (R27). -/
theorem IntakeLawful.overflow (law : IntakeLawful frames store bound) {r : FrameRecord} {number : Nat}
    (found : frames.find? (·.tag == t) = some r) (above : ∀ h, r.highest = some h → h < number) :
    IntakeLawful (updateFrame t (fun x => { x with highest := some number, overflowNoticed := true }) frames) store
      bound := by
  refine law.update _ (fun _ => ⟨rfl, rfl⟩) (fun _ _ => rfl) (fun x hx tag ⟨count, rising, below⟩ => ?_) law.lines.1
  refine ⟨count, rising, fun l hl => ⟨number, rfl, ?_⟩⟩
  obtain ⟨h, highest, le⟩ := below l hl
  exact le.trans (above h (eq_of_tag law.distinct found hx tag ▸ highest)).le

/-- An appended line is the youngest of its frame and has the highest number (R28). -/
theorem IntakeLawful.append (law : IntakeLawful frames store bound) {r : FrameRecord} {l : LineRecord}
    (found : frames.find? (·.tag == l.tag) = some r) (above : ∀ h, r.highest = some h → h < l.number) :
    IntakeLawful (updateFrame l.tag (fun x => { x with highest := some l.number, stored := x.stored + 1 }) frames)
      (store ++ [l]) bound := by
  refine law.update _ (fun _ => ⟨rfl, rfl⟩) (fun u other => linesOf_append_other l store other)
    (fun x hx tag ⟨count, rising, below⟩ => ?_) (fun k hk => ?_)
  · have lower : ∀ k ∈ linesOf l.tag store, k.number < l.number := fun k hk => by
      obtain ⟨h, highest, le⟩ := below k hk
      exact le.trans_lt (above h (eq_of_tag law.distinct found hx tag ▸ highest))
    rw [linesOf_append_same]
    refine ⟨by simp [count], ?_, fun k hk => ⟨l.number, rfl, ?_⟩⟩
    · rw [List.map_append, List.pairwise_append]
      refine ⟨rising, by simp, fun n hn m hm => ?_⟩
      obtain ⟨k, hk, rfl⟩ := List.mem_map.mp hn
      simpa [List.mem_singleton.mp hm] using lower k hk
    · rcases List.mem_append.mp hk with old | new
      · exact (lower k old).le
      · rw [List.mem_singleton.mp new]
  · rcases List.mem_append.mp hk with old | new
    · exact law.lines.1 k old
    · have tag := List.find?_some found
      exact ⟨r, List.mem_of_find?_eq_some found, by simpa [List.mem_singleton.mp new] using tag⟩

/-- Taking the oldest line of a frame lowers its count (R31). -/
theorem IntakeLawful.consume (law : IntakeLawful frames store bound) :
    IntakeLawful (updateFrame t (fun r => { r with stored := r.stored - 1 }) frames) (store.eraseP (·.tag == t))
      bound := by
  refine law.update _ (fun _ => ⟨rfl, rfl⟩) (fun _ other => linesOf_eraseP_other store other)
    (fun r _ _ ⟨count, rising, below⟩ => ?_) (fun l hl => law.lines.1 l (List.mem_of_mem_eraseP hl))
  rw [linesOf_eraseP_same]
  exact ⟨by simp [count], List.map_tail ▸ rising.tail, fun l hl => below l (List.mem_of_mem_tail hl)⟩

/-- An OPEN of a tag not listed, in a list with room (R18). -/
theorem IntakeLawful.open (law : IntakeLawful frames store bound) (room : frames.length < 3)
    (fresh : ∀ r ∈ frames, r.tag ≠ t) : IntakeLawful (frames ++ [FrameRecord.opened t]) store bound where
  few := by simpa using room
  distinct := by
    rw [List.map_append, List.nodup_append]
    refine ⟨law.distinct, by simp, fun u hu v hv => ?_⟩
    obtain ⟨r, hr, rfl⟩ := List.mem_map.mp hu
    simpa [FrameRecord.opened, List.mem_singleton.mp hv] using fresh r hr
  binding := by
    have unbound : (FrameRecord.opened t).bound = false := rfl
    cases bound with
    | none =>
      intro x hx
      rcases List.mem_append.mp hx with old | new
      · exact law.binding x old
      · rw [List.mem_singleton.mp new]
        exact unbound
    | some u =>
      obtain ⟨r, rest, rfl, tag, bound, others⟩ := law.binding
      refine ⟨r, rest ++ [FrameRecord.opened t], rfl, tag, bound, fun x hx => ?_⟩
      rcases List.mem_append.mp hx with old | new
      · exact others x old
      · rw [List.mem_singleton.mp new]
        exact unbound
  lines := by
    have none_yet : linesOf t store = [] := List.filter_eq_nil_iff.mpr fun l hl tag => by
      obtain ⟨r, hr, same⟩ := law.lines.1 l hl
      exact fresh r hr (same.trans (by simpa using tag))
    refine ⟨fun l hl => ?_, fun x hx => ?_⟩
    · obtain ⟨r, hr, tag⟩ := law.lines.1 l hl
      exact ⟨r, List.mem_append_left _ hr, tag⟩
    · rcases List.mem_append.mp hx with old | new
      · exact law.lines.2 x old
      · rw [List.mem_singleton.mp new]
        have agrees : (FrameRecord.opened t).Agrees [] := ⟨rfl, by simp, by simp⟩
        exact none_yet ▸ agrees

/-! ### Flushes and binds -/

/-- Taking out the frames of some tags with their lines keeps the agreement of the rest. -/
theorem IntakeLawful.flush {bound' : Option Byte} (law : IntakeLawful frames store bound) (keep : Byte → Bool)
    (binding : Safe.boundAgrees bound' (frames.filter fun r => keep r.tag)) :
    IntakeLawful (frames.filter fun r => keep r.tag) (store.filter fun l => keep l.tag) bound' where
  few := (List.length_filter_le _ _).trans law.few
  distinct := law.distinct.sublist (List.filter_sublist.map _)
  binding := binding
  lines := by
    refine ⟨fun l hl => ?_, fun r hr => ?_⟩
    · obtain ⟨hl, kept⟩ := List.mem_filter.mp hl
      obtain ⟨r, hr, tag⟩ := law.lines.1 l hl
      exact ⟨r, List.mem_filter.mpr ⟨hr, tag ▸ kept⟩, tag⟩
    · obtain ⟨hr, kept⟩ := List.mem_filter.mp hr
      exact linesOf_filter kept store ▸ law.lines.2 r hr

/-- The binding stands while the frames taken out are unbound ones. -/
theorem boundAgrees_filter (law : Safe.boundAgrees bound frames) (keep : Byte → Bool)
    (kept : ∀ u, bound = some u → keep u = true) : Safe.boundAgrees bound (frames.filter fun r => keep r.tag) := by
  cases bound with
  | none => exact fun x hx => law x (List.mem_of_mem_filter hx)
  | some u =>
    obtain ⟨r, rest, rfl, rfl, bound, others⟩ := law
    exact ⟨r, rest.filter fun x => keep x.tag, by simp [kept r.tag rfl], rfl, bound,
      fun x hx => others x (List.mem_of_mem_filter hx)⟩

/-- A release takes out the bound frame, which leaves none bound (R25, R73). -/
theorem IntakeLawful.release (law : IntakeLawful frames store (some t)) :
    IntakeLawful (frames.filter fun r => !(r.tag == t)) (store.filter fun l => !(l.tag == t)) none := by
  refine law.flush (fun u => !(u == t)) fun x hx => ?_
  obtain ⟨r, rest, rfl, tag, -, others⟩ := law.binding
  obtain ⟨mem, kept⟩ := List.mem_filter.mp hx
  rcases List.mem_cons.mp mem with rfl | mem
  · simp [tag] at kept
  · exact others x mem

/-- The bound record's tag is not that of an unbound record. -/
theorem IntakeLawful.bound_ne (law : IntakeLawful frames store bound) {r : FrameRecord} (mem : r ∈ frames)
    (unbound : r.bound = false) : bound ≠ some r.tag := by
  rintro rfl
  obtain ⟨x, rest, rfl, tag, bound, -⟩ := law.binding
  have same : x = r := List.inj_on_of_nodup_map law.distinct List.mem_cons_self mem tag
  simp [same, unbound] at bound

/-- The abandonment of an unbound frame leaves the binding alone (R21). -/
theorem IntakeLawful.abandon (law : IntakeLawful frames store bound) {r : FrameRecord} (mem : r ∈ frames)
    (unbound : r.bound = false) :
    IntakeLawful (frames.filter fun x => !(x.tag == r.tag)) (store.filter fun l => !(l.tag == r.tag)) bound :=
  law.flush (fun u => !(u == r.tag)) <| boundAgrees_filter law.binding (fun u => !(u == r.tag)) fun u hu => by
    have other : u ≠ r.tag := fun h => law.bound_ne mem unbound (h ▸ hu)
    simpa using other

/-- A bind of the oldest record when none is bound (R24, R60). -/
theorem IntakeLawful.bind {r : FrameRecord} {younger : List FrameRecord}
    (law : IntakeLawful (r :: younger) store none) :
    IntakeLawful (updateFrame r.tag (fun x => { x with bound := true }) (r :: younger)) store (some r.tag) := by
  rw [updateFrame_head law.distinct]
  refine ⟨law.few, law.distinct, ⟨_, _, rfl, rfl, rfl, fun x hx => law.binding x (List.mem_cons_of_mem _ hx)⟩, ?_⟩
  obtain ⟨lines, agrees⟩ := law.lines
  refine ⟨fun l hl => ?_, fun x hx => ?_⟩
  · obtain ⟨x, hx, tag⟩ := lines l hl
    rcases List.mem_cons.mp hx with rfl | hx
    · exact ⟨_, List.mem_cons_self, tag⟩
    · exact ⟨x, List.mem_cons_of_mem _ hx, tag⟩
  · rcases List.mem_cons.mp hx with rfl | hx
    · exact agrees r List.mem_cons_self
    · exact agrees x (List.mem_cons_of_mem _ hx)

end

/-! ### The intake after the shared operations -/

/-- The intake of a state agrees. -/
def State.IntakeOk (s : State) : Prop := IntakeLawful s.frames s.store s.lsq.bound

/-- Three records are never all bound, so room can be made (R20). -/
theorem makeRoom_intake {s : State} (law : s.IntakeOk) : s.makeRoom.IntakeOk ∧ s.makeRoom.frames.length < 3
    ∧ ∀ r ∈ s.makeRoom.frames, r ∈ s.frames := by
  unfold State.makeRoom Config.frameListSize
  split
  next room => exact ⟨law, room, fun _ h => h⟩
  next full =>
    have three : s.frames.length = 3 := Nat.le_antisymm law.few (Nat.le_of_not_lt full)
    split
    next r found =>
      have mem := List.mem_of_find?_eq_some found
      have unbound : r.bound = false := by simpa using List.find?_some found
      refine ⟨law.abandon mem unbound, ?_, fun x hx => List.mem_of_mem_filter hx⟩
      rw [← three]
      exact List.length_filter_lt_length_iff_exists.mpr ⟨r, mem, by simp⟩
    next none =>
      have all_bound : ∀ r ∈ s.frames, r.bound = true := fun r hr => by
        simpa using List.find?_eq_none.mp none r hr
      match frames : s.frames, three with
      | [a, b, c], _ =>
        have binding := law.binding
        cases bound : s.lsq.bound with
        | none =>
          rw [bound] at binding
          have unbound := binding a (by simp [frames])
          simp [all_bound a (by simp [frames])] at unbound
        | some u =>
          rw [bound, frames] at binding
          obtain ⟨r, rest, split, -, -, others⟩ := binding
          cases split
          have := all_bound b (by simp [frames])
          simp [others b (by simp)] at this

theorem openArrival_intake {s : State} (law : s.IntakeOk) (t : Byte) : (s.openArrival t).IntakeOk := by
  unfold State.openArrival
  split
  · exact law
  · split
    · exact law
    next fresh =>
      obtain ⟨roomLaw, room, sub⟩ := makeRoom_intake law
      refine roomLaw.open room fun r hr tag => ?_
      simp only [State.frame?, Option.not_isSome_iff_eq_none] at fresh
      simpa [tag] using List.find?_eq_none.mp fresh r (sub r hr)

theorem closeArrival_intake {s : State} (law : s.IntakeOk) (t : Byte) : (s.closeArrival t).IntakeOk := by
  unfold State.closeArrival
  split
  · exact law
  · split
    · split
      · exact law.close
      · exact law
    · exact law

theorem lineArrival_intake {s : State} (law : s.IntakeOk) (l : LineRecord) : (s.lineArrival l).IntakeOk := by
  unfold State.lineArrival
  split
  · exact law
  · split
    · exact law
    next r found =>
      split
      · exact law
      · split
        · exact law
        next above =>
          have above : ∀ h, r.highest = some h → h < l.number := fun h hh => by simpa [hh] using above
          have tag : r.tag = l.tag := by simpa using List.find?_some found
          split
          · rw [lineOverflow_eq, tag]
            exact law.overflow found above
          · rw [lineAppend_eq]
            exact law.append found above

theorem release_intake {s : State} (law : s.IntakeOk) : s.release.IntakeOk ∧ s.release.lsq.bound = none := by
  unfold State.release
  split
  next none => exact ⟨law, none⟩
  next t bound =>
    have law : IntakeLawful s.frames s.store (some t) := bound ▸ law
    exact ⟨law.release, rfl⟩

/-! ### The Line Sequencer's takes -/

theorem consume_intake {s : State} (law : s.IntakeOk) (t : Byte) : (s.consume t).IntakeOk := law.consume

theorem discardStale_intake (t : Byte) (e fuel : Nat) {s : State} (law : s.IntakeOk) :
    (State.discardStale t e fuel s).IntakeOk := by
  induction fuel generalizing s with
  | zero => exact law
  | succ n ih =>
    unfold State.discardStale
    split
    · exact law
    · split
      · exact ih (consume_intake law t)
      · exact law

theorem fetchNumber_intake {s : State} (law : s.IntakeOk) : s.fetchNumber.1.IntakeOk := by
  unfold State.fetchNumber
  split
  · exact law
  next t _ =>
    have discarded := discardStale_intake t s.lsq.expected s.store.length law
    dsimp only
    split
    · exact discarded
    · split
      · exact consume_intake discarded t
      · exact discarded

/-- The intake of a state that has the same frame list, line store and binding. -/
theorem State.IntakeOk.same {s t : State} (law : s.IntakeOk) (frames : t.frames = s.frames) (store : t.store = s.store)
    (bound : t.lsq.bound = s.lsq.bound) : t.IntakeOk := by
  unfold State.IntakeOk
  rw [frames, store, bound]
  exact law

@[simp] theorem noteMissing_bound (s : State) : s.noteMissing.lsq.bound = s.lsq.bound := by
  unfold State.noteMissing
  dsimp only
  split <;> rfl

@[simp] theorem coast_bound (s : State) : s.coast.lsq.bound = s.lsq.bound := by rw [coast_eq]

theorem noteMissing_intake {s : State} (law : s.IntakeOk) : s.noteMissing.IntakeOk :=
  law.same (by simp) (by simp) (by simp)

theorem obtain_intake {s : State} (law : s.IntakeOk) (r : Raster) : (s.obtain r).1.IntakeOk := by
  have fetched := fetchNumber_intake law
  unfold State.obtain
  dsimp only
  split
  · exact noteMissing_intake fetched
  · split
    · exact noteMissing_intake fetched
    · exact fetched

theorem dropNumber_intake {s : State} (law : s.IntakeOk) : s.dropNumber.IntakeOk := fetchNumber_intake law

theorem walkLine_intake {s : State} (law : s.IntakeOk) (r : Raster) (e : Entry) (p : Nat) :
    (s.walkLine r e p).1.IntakeOk := by
  unfold State.walkLine
  split
  · exact obtain_intake law r
  · have set : (if p = 0 then s.setCadence e else s).IntakeOk := by split <;> exact law
    have dropped (x : State) (law : x.IntakeOk) :
        (if x.lsq.cadence = e.thinDivisor - 1 then x.dropNumber else x).IntakeOk := by
      split
      · exact dropNumber_intake law
      · exact law
    exact obtain_intake (dropped _ set) r
  · exact law
  · exact law

@[simp] theorem obtain_bound (s : State) (r : Raster) : (s.obtain r).1.lsq.bound = s.lsq.bound := by
  unfold State.obtain
  dsimp only
  split
  · simp
  · split <;> simp

/-- The walk of a line leaves the binding alone. -/
@[simp] theorem walkLine_bound (s : State) (r : Raster) (e : Entry) (p : Nat) :
    (s.walkLine r e p).1.lsq.bound = s.lsq.bound := by
  unfold State.walkLine
  split
  · simp [State.showNumber]
  · unfold State.showThin State.showNumber
    dsimp only
    split <;> split <;> simp [State.setCadence, State.dropNumber]
  · rfl
  · rfl

/-! ### Frame starts -/

/-- With nothing bound the oldest unbound record is the oldest of all. -/
theorem frames_eq_cons_of_oldest {s : State} (law : s.IntakeOk) (free : s.lsq.bound = none) {r : FrameRecord}
    (found : s.frames.find? (fun x => !x.bound) = some r) : ∃ rest, s.frames = r :: rest := by
  have binding := law.binding
  rw [free] at binding
  match frames : s.frames with
  | [] => simp [frames] at found
  | x :: rest =>
    have unbound : x.bound = false := binding x (by simp [frames])
    rw [frames, List.find?_cons_of_pos (by simp [unbound])] at found
    exact ⟨rest, by rw [Option.some.inj found]⟩

theorem frameStartCoast_intake {s : State} (law : s.IntakeOk) : s.frameStartCoast.IntakeOk :=
  law.same (by simp) (by simp) (by simp [State.frameStartCoast, State.beginFrame])

theorem frameStartFree_intake {s : State} (law : s.IntakeOk) (free : s.lsq.bound = none) :
    s.frameStartFree.IntakeOk := by
  cases oldest : s.frames.find? (fun x => !x.bound) with
  | none => rw [frameStartFree_of_none s oldest]; exact frameStartCoast_intake law
  | some r =>
    obtain ⟨rest, frames⟩ := frames_eq_cons_of_oldest law free oldest
    rw [frameStartFree_of_some s oldest]
    have law : IntakeLawful (r :: rest) s.store none := frames ▸ free ▸ law
    simp only [State.IntakeOk, State.bindFrame_frames, State.bindFrame_store, State.bindFrame_lsq,
      State.beginFrame_frames, State.beginFrame_store, frames]
    exact law.bind

/-- The records before the first ready one wait, unbound when nothing is bound. -/
theorem frameStartReady_intake {s : State} (law : s.IntakeOk) (free : s.lsq.bound = none) {prime : Nat}
    {r : FrameRecord} (found : s.frames.find? (·.ready prime) = some r) :
    (s.frameStartReady prime r.tag).IntakeOk := by
  obtain ⟨ready, older, younger, frames, before⟩ := List.find?_eq_some_iff_append.mp found
  have binding := law.binding
  rw [free] at binding
  have waiting : ∀ x ∈ older, x.bound = false ∧ x.ready prime = false := fun x hx =>
    ⟨binding x (by simp [frames, hx]), by simpa using before x hx⟩
  have abandoned := abandonOlder_eq (s := s.beginFrame) frames law.distinct waiting ready
  have keep (u : Byte) : (older.all fun y => !(u == y.tag)) = older.all fun y => !(y.tag == u) := by
    simp only [BEq.comm]
  have kept : (s.frames.filter fun x => older.all fun y => !(x.tag == y.tag)) = r :: younger :=
    frames ▸ filter_older (frames ▸ law.distinct)
  have flushed : IntakeLawful (r :: younger) (s.store.filter fun l => older.all fun y => !(y.tag == l.tag)) none := by
    have law : IntakeLawful s.frames s.store none := free ▸ law
    have := law.flush (bound' := none) (fun u => older.all fun y => !(u == y.tag))
      (boundAgrees_filter law.binding (fun u => older.all fun y => !(u == y.tag)) fun u hu => by cases hu)
    rw [kept] at this
    simpa only [keep] using this
  rw [State.frameStartReady, abandoned]
  exact flushed.bind

/-! ### Every step -/

/-- The laws of the intake with that of the output states, on which they rest. -/
def Safe.Intake (s : State) : Prop := Safe.Output s ∧ Safe.FrameList s ∧ Safe.LineStore s

theorem safe_intake_iff' (s : State) : Safe.Intake s
    ↔ Safe.Output s ∧ s.IntakeOk ∧ s.otg.Idles s.frames s.lsq.bound :=
  and_congr_right fun _ => safe_intake_iff s

/-- Where the output runs and no boundary hold stands, the intake is free of the output. -/
theorem Otg.idles_of_running {o : Otg} (running : o.output ≠ .off) (notWaiting : o.output ≠ .waitFrame)
    (noBoundary : o.holdPosition ≠ .boundary) (frames : List FrameRecord) (bound : Option Byte) :
    o.Idles frames bound :=
  ⟨fun off => absurd off running, fun h => (h.elim notWaiting noBoundary).elim⟩

/-- With nothing bound only OFF asks for an empty list. -/
theorem Otg.idles_of_free {o : Otg} {frames : List FrameRecord} (off : o.output = .off → frames = []) :
    o.Idles frames none := ⟨off, fun _ => rfl⟩

theorem Otg.begun_idles (o : Otg) (frames : List FrameRecord) (bound : Option Byte) : o.begun.Idles frames bound :=
  Otg.idles_of_running (by simp [Otg.begun]) (by simp [Otg.begun]) (by simp [Otg.begun]) _ _

/-- An empty intake agrees, and asks nothing of the output. -/
theorem intake_of_empty {s : State} (frames : s.frames = []) (store : s.store = []) (free : s.lsq.bound = none) :
    s.IntakeOk ∧ s.otg.Idles s.frames s.lsq.bound := by
  unfold State.IntakeOk
  rw [frames, store, free]
  exact ⟨intakeLawful_nil, Otg.idles_of_free fun _ => rfl⟩

/-- An empty list binds nothing. -/
theorem State.IntakeOk.free_of_empty {s : State} (law : s.IntakeOk) (empty : s.frames = []) : s.lsq.bound = none := by
  have binding := law.binding
  cases bound : s.lsq.bound with
  | none => rfl
  | some t =>
    rw [bound, empty] at binding
    obtain ⟨_, _, cons, -⟩ := binding
    cases cons

/-- An arrival is ignored in OFF and leaves the output and the binding alone (R19). -/
theorem idles_of_arrival {s t : State} (idles : s.otg.Idles s.frames s.lsq.bound) (ignored : s.otg.output = .off → t = s)
    (otg : t.otg = s.otg) (lsq : t.lsq = s.lsq) : t.otg.Idles t.frames t.lsq.bound := by
  rw [otg, lsq]
  exact ⟨fun off => by rw [ignored off]; exact idles.1 off, idles.2⟩

theorem dropLink_intake (s : State) : s.dropLink.frames = [] ∧ s.dropLink.store = [] ∧ s.dropLink.lsq.bound = none := by
  cases session : s.mge.session with
  | none => rw [dropLink_of_closed session]; exact ⟨rfl, rfl, rfl⟩
  | some x => rw [dropLink_of_open session]; exact ⟨rfl, rfl, rfl⟩

theorem event_intake {s t : State} {i : Instr} (law : s.IntakeOk) (idles : s.otg.Idles s.frames s.lsq.bound)
    (move : EventMove s i t) : t.IntakeOk ∧ t.otg.Idles t.frames t.lsq.bound := by
  obtain ⟨released, released_free⟩ := release_intake law
  have applied : s.release.applyPendingCommit.IntakeOk := released.same (by simp) (by simp) (by simp)
  have applied_free : s.release.applyPendingCommit.lsq.bound = none := by simpa using released_free
  have waiting_free (waiting : s.otg.output = .waitFrame) : s.lsq.bound = none := idles.2 (Or.inl waiting)
  cases move with
  | linkReset _ _ _ _ packet =>
    obtain ⟨frames, store, free⟩ := dropLink_intake (State.loseLock _ _)
    exact intake_of_empty frames store free
  | openArrival _ lrx _ tag =>
    exact ⟨openArrival_intake (s := { s with lrx := lrx }) law tag,
      idles_of_arrival (s := { s with lrx := lrx }) idles (openArrival_off · tag) (by simp) (by simp)⟩
  | closeArrival _ lrx _ tag =>
    exact ⟨closeArrival_intake (s := { s with lrx := lrx }) law tag,
      idles_of_arrival (s := { s with lrx := lrx }) idles (closeArrival_off · tag) (by simp) (by simp)⟩
  | lineArrival _ lrx _ l =>
    exact ⟨lineArrival_intake (s := { s with lrx := lrx }) law l,
      idles_of_arrival (s := { s with lrx := lrx }) idles (fun off => if_pos off) (by simp) (by simp)⟩
  | quietLine | dataEnd | lastLineEnd | nextLine | waitNoBank | nextWaitLine => exact ⟨law, idles⟩
  | activeLine r e p l _ active =>
    refine ⟨walkLine_intake law r e p, fun off => ?_, fun h => ?_⟩
    · simp [active] at off
    · simpa using idles.2 (by simpa using h)
  | lineHold =>
    exact ⟨law, Otg.idles_of_running (by simp [Otg.heldAt]) (by simp [Otg.heldAt]) (by simp [Otg.heldAt]) _ _⟩
  | waitFree waiting =>
    exact ⟨frameStartFree_intake (s := s.countWaitLine) law (waiting_free waiting),
      frameStartFree_otg _ ▸ Otg.begun_idles _ _ _⟩
  | waitReady waiting _ _ ready =>
    exact ⟨frameStartReady_intake (s := s.countWaitLine) law (waiting_free waiting) ready,
      frameStartReady_otg _ _ _ ▸ Otg.begun_idles _ _ _⟩
  | waitCoast =>
    exact ⟨frameStartCoast_intake (s := s.countWaitLine) law, frameStartCoast_otg _ ▸ Otg.begun_idles _ _ _⟩
  | frameEndOff => exact intake_of_empty rfl rfl rfl
  | frameEndHeld _ _ kind =>
    refine ⟨applied.same (by simp) (by simp) (by simp), ?_⟩
    rw [show (s.release.applyPendingCommit.enterHeld kind .boundary).lsq.bound = none by simpa using released_free]
    exact Otg.idles_of_free fun off => by simp [Otg.heldAt] at off
  | frameEndWait =>
    refine ⟨applied.same (by simp) (by simp) (by simp), ?_⟩
    rw [show s.release.applyPendingCommit.enterWaitFrame.lsq.bound = none by simpa using released_free]
    exact Otg.idles_of_free fun off => by simp [Otg.waiting] at off
  | frameEndFree =>
    exact ⟨frameStartFree_intake applied applied_free, frameStartFree_otg _ ▸ Otg.begun_idles _ _ _⟩
  | _ => exact ⟨law.same (by simp) (by simp) (by simp), by simpa using idles⟩

theorem command_intake {c : Command} {s t : State} {i : Instr} (law : s.IntakeOk)
    (idles : s.otg.Idles s.frames s.lsq.bound) (move : CommandMove c s i t) :
    t.IntakeOk ∧ t.otg.Idles t.frames t.lsq.bound := by
  have off_free (off : s.otg.output = .off) : s.lsq.bound = none := law.free_of_empty (idles.1 off)
  cases move with
  | startWait off =>
    refine ⟨law, ?_⟩
    rw [show s.enterWaitFrame.lsq.bound = none from off_free off]
    exact Otg.idles_of_free fun off => by simp [Otg.waiting] at off
  | startFree off => exact ⟨frameStartFree_intake law (off_free off), frameStartFree_otg _ ▸ Otg.begun_idles _ _ _⟩
  | requestStop | requestHold | cancelHold => exact ⟨law, idles⟩
  | stop => exact intake_of_empty rfl rfl rfl
  | hold kind waiting =>
    refine ⟨law, ?_⟩
    rw [show (s.discardWaitCount.enterHeld kind .boundary).lsq.bound = none from idles.2 (Or.inl waiting)]
    exact Otg.idles_of_free fun off => by simp [Otg.heldAt] at off
  | resumeFrame =>
    exact ⟨law, Otg.idles_of_running (by simp [State.resumeFrame]) (by simp [State.resumeFrame])
      (by simp [State.resumeFrame]) _ _⟩
  | resumeWait _ position =>
    refine ⟨law, ?_⟩
    rw [show s.enterWaitFrame.lsq.bound = none from idles.2 (Or.inr position)]
    exact Otg.idles_of_free fun off => by simp [Otg.waiting] at off
  | resumeFree _ position =>
    exact ⟨frameStartFree_intake law (idles.2 (Or.inr position)), frameStartFree_otg _ ▸ Otg.begun_idles _ _ _⟩
  | _ => exact ⟨law.same (by simp) (by simp) (by simp), by simpa using idles⟩

/-- Every step keeps the intake in agreement, with the law of the output states. -/
theorem intake_coreKept : CoreKept Safe.Intake where
  same := fun {s t} law same => by
    obtain ⟨output, intake, idles⟩ := (safe_intake_iff' s).mp law
    refine (safe_intake_iff' t).mpr ⟨output_coreKept.same output same, intake.same same.frames same.store (by
      rw [same.lsq]), ?_⟩
    rw [same.otg, same.frames, same.lsq]
    exact idles
  reset := fun {s t} law reset => (safe_intake_iff' t).mpr ⟨output_coreKept.reset law.1 reset,
    intake_of_empty reset.frames reset.store (by rw [reset.lsq]; rfl)⟩
  silence := fun law _ _ => law
  event := fun {s i t} law move => by
    obtain ⟨output, intake, idles⟩ := (safe_intake_iff' s).mp law
    exact (safe_intake_iff' t).mpr ⟨output_coreKept.event output move, event_intake intake idles move⟩
  command := fun {s c i t} law move => by
    obtain ⟨output, intake, idles⟩ := (safe_intake_iff' s).mp law
    exact (safe_intake_iff' t).mpr ⟨output_coreKept.command output move, command_intake intake idles move⟩

/-- Settles O59. -/
theorem stepKeepsFramesAndLines : Obligations.StepKeepsFramesAndLines := fun _ _ output law stepped =>
  (intake_coreKept.stepKept.step_keeps ⟨output, law⟩ stepped).2

end Sys2Proof.Machine
end

section
/-! SUPPORT. The reply cache, the return lane and the capacities over every step (R148, R161 to R164, Table 0-4). -/

namespace Sys2Proof.Machine

/-! ### The reply cache -/

/-- The law of the reply cache as a predicate on the Management Engine alone (R148). -/
def Mge.CacheLawful (m : Mge) : Prop :=
  m.cache.length ≤ 4 ∧ (m.cache.map (·.tag)).Nodup ∧ (m.session = none → m.cache = [])

theorem safe_cache_iff (s : State) : Safe.Cache s ↔ s.mge.CacheLawful := Iff.rfl

theorem Mge.cacheLawful_of_empty {m : Mge} (empty : m.cache = []) : m.CacheLawful := by
  simp [Mge.CacheLawful, empty]

/-- An event leaves the cache and whether a session is open, or empties the cache. -/
theorem EventMove.cache {s t : State} {i : Instr} (move : EventMove s i t) :
    t.mge.cache = [] ∨ t.mge.cache = s.mge.cache ∧ (t.mge.session = none → s.mge.session = none) := by
  cases move with
  | linkReset _ cause _ counted packet =>
    have session_eq : (counted.loseLock cause).mge = s.mge := by rcases packet with rfl | rfl <;> simp
    cases session : s.mge.session with
    | none =>
      rw [dropLink_of_closed (by rw [session_eq]; exact session)]
      have cache_eq : (counted.loseLock cause).mge.cache = s.mge.cache := congrArg Mge.cache session_eq
      exact Or.inr ⟨cache_eq, fun _ => rfl⟩
    | some x =>
      rw [dropLink_of_open (by rw [session_eq]; exact session)]
      exact Or.inl rfl
  | idleExpiry => exact Or.inl rfl
  | commandArrival _ lrx _ c =>
    refine Or.inr ?_
    unfold State.commandArrival
    split
    · exact ⟨rfl, fun closed => by simpa using closed⟩
    · exact ⟨rfl, id⟩
  | _ => exact Or.inr (by simp)

/-- A command's own rule leaves the cache and the session, or empties the cache (R150, R151). -/
theorem CommandMove.cache {c : Command} {s t : State} {i : Instr} (move : CommandMove c s i t) :
    t.mge.cache = [] ∨ t.mge.cache = s.mge.cache ∧ t.mge.session = s.mge.session := by
  cases move with
  | openSession | takeOver | closeSession => exact Or.inl rfl
  | _ => exact Or.inr (by simp)

theorem length_cacheInsert_le {cache : List CacheRecord} (few : cache.length ≤ 4) (r : CacheRecord) :
    (cacheInsert cache r).length ≤ 4 := by
  unfold cacheInsert Config.replyCacheSize
  split
  · simp only [List.length_append, List.length_singleton]
    omega
  · simp only [List.length_append, List.length_drop, List.length_singleton]
    omega

/-- A record of a new tag keeps the tags distinct, whether or not the oldest leaves (R148). -/
theorem nodup_cacheInsert {cache : List CacheRecord} (distinct : (cache.map (·.tag)).Nodup) {r : CacheRecord}
    (fresh : ∀ x ∈ cache, x.tag ≠ r.tag) : ((cacheInsert cache r).map (·.tag)).Nodup := by
  have kept : (if cache.length < Config.replyCacheSize then cache else cache.drop 1).Sublist cache := by
    split
    · exact List.Sublist.refl _
    · exact List.drop_sublist 1 cache
  rw [cacheInsert, List.map_append, List.nodup_append]
  refine ⟨distinct.sublist (kept.map _), by simp, fun u hu v hv => ?_⟩
  obtain ⟨x, hx, rfl⟩ := List.mem_map.mp hu
  simpa [List.mem_singleton.mp hv] using fresh x (kept.subset hx)

theorem cached?_eq_none_iff (s : State) (t : Byte) : s.cached? t = none ↔ ∀ x ∈ s.mge.cache, x.tag ≠ t := by
  simp [State.cached?]

/-- A command in epoch finds a session open. -/
theorem inEpoch_iff (s : State) (c : Command) :
    s.inEpoch c = true ↔ ∃ x, s.mge.session = some x ∧ x.epoch = c.epoch := by
  simp [State.inEpoch, Option.any_eq_true]

/-- The answer of a command whose tag is not cached when it is in epoch keeps the law (R148). -/
theorem answer_cacheLawful {u : State} {c : Command} (law : u.mge.CacheLawful)
    (fresh : u.inEpoch c = true → ∀ x ∈ u.mge.cache, x.tag ≠ c.tag) (r : Response) :
    (u.answer c r).mge.CacheLawful := by
  rcases answer_eq u c r with queued | ⟨inEpoch, cached⟩
  · rw [queued]
    exact law
  · obtain ⟨few, distinct, -⟩ := law
    obtain ⟨x, opened, -⟩ := (inEpoch_iff u c).mp inEpoch
    rw [cached]
    exact ⟨length_cacheInsert_le few _, nodup_cacheInsert distinct (fresh inEpoch), fun closed => by
      simp [opened] at closed⟩

/-- Every step keeps the law of the reply cache (R148). -/
theorem cache_stepKept : StepKept Safe.Cache where
  row := fun {s i t} law move => by
    rw [safe_cache_iff] at law ⊢
    cases move with
    | powerOnReset =>
      refine Mge.cacheLawful_of_empty ?_
      unfold powerOnReset
      split <;> rfl
    | pinReset => exact Mge.cacheLawful_of_empty rfl
    | release => exact law
    | nothing => exact law
    | deviceReset i u _ move => exact Mge.cacheLawful_of_empty (by cases move <;> rfl)
    | event i u _ move =>
      rcases move.cache with empty | ⟨same, session⟩
      · exact Mge.cacheLawful_of_empty empty
      · obtain ⟨few, distinct, closed⟩ := law
        simp only [Mge.CacheLawful, State.settle_mge, same]
        exact ⟨few, distinct, fun none => closed (session none)⟩
    | queued => exact law
    | carriedOut i c u r _ _ fresh move =>
      refine answer_cacheLawful ?_ (fun inEpoch x hx => ?_) r
      · rcases move.cache with empty | ⟨same, session⟩
        · exact Mge.cacheLawful_of_empty empty
        · simp only [Mge.CacheLawful, same, session]
          exact law
      · rcases move.cache with empty | ⟨same, session⟩
        · simp [empty] at hx
        · have inEpoch : s.inEpoch c = true := by
            rw [inEpoch_iff, session] at inEpoch
            exact (inEpoch_iff s c).mpr inEpoch
          exact (cached?_eq_none_iff s c.tag).mp (fresh inEpoch) x (same ▸ hx)
  pending := fun _ law => law
  lane := fun law _ => law
  silence := fun law _ _ => law
  idle := fun {s x} law opened => by
    obtain ⟨few, distinct, -⟩ := law
    exact ⟨few, distinct, fun closed => by simp at closed⟩

/-! ### Notices raised within a step -/

/-- `q` is the return lane after notices other than RESET_DONE have been raised in turn (R161, R162). -/
inductive Rlt.Raised (r : Rlt) : Rlt → Prop
  | none : Raised r r
  | raise {q : Rlt} (before : Raised r q) (k : NoticeKind) (other : k ≠ .resetDone) (d : Word16) (f : Word32) :
      Raised r (q.raise k d f)

theorem Rlt.Raised.trans {r q p : Rlt} (first : r.Raised q) (second : q.Raised p) : r.Raised p := by
  induction second with
  | none => exact first
  | raise _ k other d f ih => exact ih.raise k other d f

theorem raised_of_raise (s : State) {k : NoticeKind} (other : k ≠ .resetDone) (d : Word16) :
    s.rlt.Raised (s.raise k d).rlt := .raise .none k other d _

theorem raised_of_eq {r q : Rlt} (same : q = r) : r.Raised q := same ▸ .none

section
variable (s : State)

theorem abandon_raised (t : Byte) : s.rlt.Raised (s.abandon t).rlt :=
  raised_of_raise ((s.flushFrame t).count .abandonedFrame) (by decide) _

theorem openArrival_raised (t : Byte) : s.rlt.Raised (s.openArrival t).rlt := by
  unfold State.openArrival
  split
  · exact .none
  · split
    · exact .none
    · unfold State.makeRoom
      split
      · exact .none
      · split
        · exact abandon_raised s _
        · exact .none

theorem lineArrival_raised (l : LineRecord) : s.rlt.Raised (s.lineArrival l).rlt := by
  unfold State.lineArrival
  split
  · exact .none
  · split
    · exact .none
    · split
      · exact .none
      · split
        · exact .none
        · split
          · rw [lineOverflow_eq]
            dsimp only
            split
            · exact .none
            · exact .raise .none _ (by decide) _ _
          · rw [lineAppend_eq]
            exact .none

theorem coast_raised : s.rlt.Raised s.coast.rlt := by
  rw [coast_eq]
  dsimp only
  split
  · exact .none
  · exact .raise .none _ (by decide) _ _

theorem abandonOlder_raised (prime : Nat) : s.rlt.Raised (s.abandonOlder prime).rlt := by
  unfold State.abandonOlder
  generalize (s.frames.takeWhile (fun r => !r.ready prime)).filter (fun r => !r.bound) = older
  induction older generalizing s with
  | nil => exact .none
  | cons r rest ih => exact (abandon_raised s r.tag).trans (ih (s.abandon r.tag))

theorem frameStartCoast_raised : s.rlt.Raised s.frameStartCoast.rlt := coast_raised s.beginFrame

theorem frameStartFree_raised : s.rlt.Raised s.frameStartFree.rlt := by
  unfold State.frameStartFree
  split
  · exact .none
  · exact coast_raised s.beginFrame

theorem frameStartReady_raised (prime : Nat) (t : Byte) : s.rlt.Raised (s.frameStartReady prime t).rlt :=
  abandonOlder_raised s.beginFrame prime

theorem noteMissing_raised : s.rlt.Raised s.noteMissing.rlt := by
  unfold State.noteMissing
  dsimp only
  split
  · exact .none
  · exact .raise .none _ (by decide) _ _

theorem obtain_raised (r : Raster) : s.rlt.Raised (s.obtain r).1.rlt := by
  have fetched : s.fetchNumber.1.rlt = s.rlt := by simp
  unfold State.obtain
  dsimp only
  split
  · exact fetched ▸ noteMissing_raised _
  · split
    · exact fetched ▸ noteMissing_raised _
    · exact raised_of_eq fetched

theorem walkLine_raised (r : Raster) (e : Entry) (p : Nat) : s.rlt.Raised (s.walkLine r e p).1.rlt := by
  unfold State.walkLine
  split
  · exact obtain_raised s r
  · have set : (if p = 0 then s.setCadence e else s).rlt = s.rlt := by split <;> rfl
    have dropped (x : State) : (if x.lsq.cadence = e.thinDivisor - 1 then x.dropNumber else x).rlt = x.rlt := by
      split <;> simp
    have before := (dropped _).trans set
    exact before ▸ obtain_raised _ r
  · exact .none
  · exact .none

theorem applyPendingCommit_raised : s.rlt.Raised s.applyPendingCommit.rlt := by
  unfold State.applyPendingCommit
  split
  · exact .none
  · exact raised_of_raise _ (by decide) _

theorem enterHeld_raised (k : HoldKind) (p : HoldPosition) : s.rlt.Raised (s.enterHeld k p).rlt :=
  .raise .none _ (by decide) _ _

theorem enterOff_rlt : s.enterOff.rlt = s.applyPendingCommit.rlt := by simp [State.enterOff]

theorem dropLink_rlt : s.dropLink.rlt = { s.rlt with replies := [] } := by
  cases session : s.mge.session with
  | none => rw [dropLink_of_closed session]; rfl
  | some x => rw [dropLink_of_open session]; rfl

end

/-- What an event does to the return lane before the arbiter acts: LANE_FREE arbitrates, every other raises notices, and a
link reset empties the reply queue. -/
theorem EventMove.rlt {s t : State} {i : Instr} (move : EventMove s i t) :
    t.rlt = { s.rlt with lane := .idle }.arbitrate
      ∨ ∃ q, s.rlt.Raised q ∧ (t.rlt = q ∨ t.rlt = { q with replies := [] }) := by
  have raised (h : s.rlt.Raised t.rlt) : t.rlt = { s.rlt with lane := .idle }.arbitrate
      ∨ ∃ q, s.rlt.Raised q ∧ (t.rlt = q ∨ t.rlt = { q with replies := [] }) := Or.inr ⟨_, h, Or.inl rfl⟩
  have released : s.release.rlt = s.rlt := by simp
  have applied : s.rlt.Raised s.release.applyPendingCommit.rlt := released ▸ applyPendingCommit_raised s.release
  cases move with
  | laneFree => exact Or.inl rfl
  | linkLocked _ lrx => exact raised (raised_of_raise { s with lrx := lrx } (by decide) _)
  | linkReset _ cause _ counted packet =>
    have lost : s.rlt.Raised (counted.loseLock cause).rlt := by
      rcases packet with rfl | rfl <;> exact .raise .none _ (by decide) _ _
    exact Or.inr ⟨_, lost, Or.inr (dropLink_rlt _)⟩
  | openArrival _ lrx _ tag => exact raised (openArrival_raised { s with lrx := lrx } tag)
  | lineArrival _ lrx _ l => exact raised (lineArrival_raised { s with lrx := lrx } l)
  | idleExpiry => exact raised (raised_of_raise s.closeSession (by decide) _)
  | activeLine r e p => exact raised (walkLine_raised s r e p)
  | lineHold => exact raised (enterHeld_raised s _ _)
  | waitFree => exact raised (frameStartFree_raised s.countWaitLine)
  | waitReady _ prime r => exact raised (frameStartReady_raised s.countWaitLine prime r.tag)
  | waitCoast => exact raised (frameStartCoast_raised s.countWaitLine)
  | frameEndOff =>
    have off : s.rlt.Raised s.release.applyPendingCommit.enterOff.rlt :=
      enterOff_rlt _ ▸ applied.trans (applyPendingCommit_raised _)
    exact raised (off.raise _ (by decide) _ _)
  | frameEndHeld => exact raised (applied.trans (enterHeld_raised _ _ _))
  | frameEndWait => exact raised applied
  | frameEndFree => exact raised (applied.trans (frameStartFree_raised _))
  | link | badPacket | quietLine | dataEnd | lastLineEnd | nextLine | lineNoBank => exact raised .none
  | _ => exact raised (raised_of_eq (by simp))

/-- What a command's own rule does to the return lane: it may raise notices, or set the mask (R156). -/
theorem CommandMove.rlt {c : Command} {s t : State} {i : Instr} (move : CommandMove c s i t) :
    s.rlt.Raised t.rlt ∨ ∃ mask : Word16, mask &&& reservedMaskBits = 0 ∧ t.rlt = { s.rlt with mask := mask } := by
  cases move with
  | setNotices mask allowed => exact Or.inr ⟨mask, allowed, rfl⟩
  | startFree | resumeFree => exact Or.inl (frameStartFree_raised s)
  | stop => exact Or.inl (enterOff_rlt s ▸ applyPendingCommit_raised s)
  | hold => exact Or.inl (enterHeld_raised s.discardWaitCount _ _)
  | _ => exact Or.inl (raised_of_eq (by simp))

/-! ### The return lane -/

/-- What holds of the return lane while a step is under way, before the arbiter acts (R161 to R164). -/
def Rlt.Lawful (r : Rlt) : Prop :=
  r.consecutive ≤ 4 ∧ (r.notices = [] → r.lost = 0) ∧ r.mask &&& reservedMaskBits = 0
    ∧ ∀ n ∈ r.notices.tail, n.kind ≠ .resetDone

/-- A lane that is idle between steps has nothing to send. -/
def Rlt.Settled (r : Rlt) : Prop := r.lane = .idle → r.replies = [] ∧ r.notices = []

theorem safe_lane_iff (s : State) :
    Safe.Lane s ↔ s.rlt.Settled ∧ s.rlt.Lawful ∧ (s.resetHeld = true → s.rlt.lane = .idle) := by
  constructor
  · rintro ⟨settled, consecutive, lost, mask, first, held⟩
    exact ⟨settled, ⟨consecutive, lost, mask, first⟩, held⟩
  · rintro ⟨settled, ⟨consecutive, lost, mask, first⟩, held⟩
    exact ⟨settled, consecutive, lost, mask, first, held⟩

/-- Raising keeps the law: a notice that joins a filled queue is no RESET_DONE, a lost one finds the queue filled. -/
theorem Rlt.Lawful.raise {r : Rlt} (law : r.Lawful) {k : NoticeKind} (fits : k ≠ .resetDone ∨ r.notices = [])
    (d : Word16) (f : Word32) : (r.raise k d f).Lawful := by
  obtain ⟨consecutive, lost, mask, first⟩ := law
  rcases r.raise_cases k d f with ⟨-, same⟩ | ⟨-, -, joined⟩ | ⟨-, full, missed⟩
  · rw [same]
    exact ⟨consecutive, lost, mask, first⟩
  · rw [joined]
    refine ⟨consecutive, fun none => by simp at none, mask, fun n hn => ?_⟩
    cases notices : r.notices with
    | nil => simp [notices] at hn
    | cons m rest =>
      rw [notices, List.cons_append, List.tail_cons] at hn
      rcases List.mem_append.mp hn with old | new
      · exact first n (by simpa [notices] using old)
      · rw [List.mem_singleton.mp new]
        exact fits.resolve_right (by simp [notices])
  · rw [missed]
    refine ⟨consecutive, fun none => ?_, mask, first⟩
    have none : r.notices = [] := none
    simp [none] at full

theorem Rlt.Raised.lawful {r q : Rlt} (raised : r.Raised q) (law : r.Lawful) : q.Lawful := by
  induction raised with
  | none => exact law
  | raise _ k other d f ih => exact ih.raise (Or.inl other) d f

theorem Rlt.Lawful.sendReply {r : Rlt} (law : r.Lawful) : r.sendReply.Lawful := by
  obtain ⟨consecutive, rest⟩ := law
  unfold Rlt.sendReply
  split
  · exact ⟨consecutive, rest⟩
  · exact ⟨Nat.min_le_right _ 4, rest⟩

theorem Rlt.Lawful.sendNotice {r : Rlt} (law : r.Lawful) : r.sendNotice.Lawful := by
  obtain ⟨consecutive, lost, mask, first⟩ := law
  unfold Rlt.sendNotice
  split
  · exact ⟨consecutive, lost, mask, first⟩
  next n rest notices =>
    exact ⟨Nat.zero_le 4, fun _ => rfl, mask, fun m hm => first m (by simpa [notices] using List.mem_of_mem_tail hm)⟩

/-- The arbiter keeps the law and leaves an idle lane only with nothing to send (R163). -/
theorem Rlt.Lawful.arbitrate {r : Rlt} (law : r.Lawful) : r.arbitrate.Lawful ∧ r.arbitrate.Settled := by
  rcases r.arbitrate_cases with ⟨noNotices, noReplies, same⟩ | ⟨x, rest, replies, sent⟩ | ⟨n, rest, notices, sent⟩
  · rw [same]
    exact ⟨law, fun _ => ⟨noReplies, noNotices⟩⟩
  · rw [sent]
    exact ⟨law.sendReply, fun idle => by simp [Rlt.sendReply_cons r x rest replies] at idle⟩
  · rw [sent]
    exact ⟨law.sendNotice, fun idle => by simp [Rlt.sendNotice_cons r n rest notices] at idle⟩

theorem Rlt.Lawful.settle {r : Rlt} (law : r.Lawful) (n : Nat) : (r.settle n).Lawful ∧ (r.settle n).Settled := by
  rcases r.settle_cases n with ⟨nothing, same⟩ | ⟨-, x, rest, replies, sent⟩ | ⟨-, m, rest, notices, sent⟩
  · rw [same]
    refine ⟨law, fun idle => ?_⟩
    rcases nothing with busy | ⟨noNotices, noReplies⟩
    · simp [idle, Lane.isBusy] at busy
    · exact ⟨noReplies, noNotices⟩
  · rw [sent]
    exact ⟨law.sendReply, fun idle => by simp [Rlt.sendReply_cons r x rest replies] at idle⟩
  · rw [sent]
    exact ⟨law.sendNotice, fun idle => by simp [Rlt.sendNotice_cons r m rest notices] at idle⟩

/-- A step that ends with the arbiter, outside reset, ends within the laws of the lane. -/
theorem settle_lane {u : State} (law : u.rlt.Lawful) (running : u.resetHeld = false) : Safe.Lane u.settle := by
  obtain ⟨kept, settled⟩ := law.settle u.choices
  exact (safe_lane_iff _).mpr ⟨settled, kept, fun held => by simp [running] at held⟩

theorem cleared_rlt_lawful (lane : Lane) : Rlt.Lawful { State.cleared.rlt with lane := lane } :=
  ⟨Nat.zero_le 4, fun _ => rfl, BitVec.zero_and, fun n hn => by simp [State.cleared] at hn⟩

/-- After a device reset RESET_DONE waits alone (R164). -/
theorem deviceReset_lawful (s : State) (lane : Lane) : (s.deviceReset lane).rlt.Lawful :=
  (cleared_rlt_lawful lane).raise (Or.inr rfl) _ _

theorem EventMove.resetHeld {s t : State} {i : Instr} (move : EventMove s i t) : t.resetHeld = s.resetHeld := by
  cases move with
  | linkReset _ _ _ _ packet => rcases packet with rfl | rfl <;> simp
  | _ => simp

theorem CommandMove.resetHeld {c : Command} {s t : State} {i : Instr} (move : CommandMove c s i t) :
    t.resetHeld = s.resetHeld := by
  cases move <;> simp

/-- Every step keeps the laws of the return lane (R161 to R164). -/
theorem lane_stepKept : StepKept Safe.Lane where
  row := fun {s i t} safe move => by
    obtain ⟨settled, law, held⟩ := (safe_lane_iff s).mp safe
    cases move with
    | powerOnReset =>
      unfold powerOnReset
      split
      next => exact (safe_lane_iff _).mpr ⟨fun _ => ⟨rfl, rfl⟩, cleared_rlt_lawful .idle, fun _ => rfl⟩
      next running => exact settle_lane ((cleared_rlt_lawful .idle).raise (Or.inr rfl) _ _) (Bool.eq_false_iff.mpr running)
    | pinReset => exact (safe_lane_iff _).mpr ⟨fun _ => ⟨rfl, rfl⟩, cleared_rlt_lawful .idle, fun _ => rfl⟩
    | release inReset =>
      obtain ⟨-, noNotices⟩ := settled (held inReset)
      exact settle_lane (law.raise (Or.inr noNotices) _ _) rfl
    | nothing => exact safe
    | deviceReset i u running move =>
      have reset : u.rlt.Lawful := by
        cases move with
        | atReply => exact deviceReset_lawful s .idle
        | atLinkReset => exact deviceReset_lawful s s.rlt.lane
      exact settle_lane reset (by cases move <;> exact running)
    | event i u running move =>
      have kept : u.rlt.Lawful := by
        rcases move.rlt with arbitrated | ⟨q, raised, same | dropped⟩
        · rw [arbitrated]
          exact (Rlt.Lawful.arbitrate (r := { s.rlt with lane := .idle }) law).1
        · rw [same]
          exact raised.lawful law
        · rw [dropped]
          exact raised.lawful law
      exact settle_lane kept (move.resetHeld.trans running)
    | queued i r running => exact settle_lane (u := (popped s).queueReply r) law running
    | carriedOut i c u r running _ _ move =>
      have kept : u.rlt.Lawful := by
        rcases move.rlt with raised | ⟨mask, allowed, set⟩
        · exact raised.lawful law
        · obtain ⟨consecutive, lost, -, first⟩ := law
          rw [set]
          exact ⟨consecutive, lost, allowed, first⟩
      refine settle_lane ?_ ((answer_resetHeld c r).trans (move.resetHeld.trans running))
      rw [answer_rlt]
      exact kept
  pending := fun _ safe => safe
  lane := fun {s m k} safe busy => by
    obtain ⟨settled, law, held⟩ := (safe_lane_iff s).mp safe
    refine (safe_lane_iff _).mpr ⟨fun idle => by simp at idle, law, fun inReset => ?_⟩
    exact absurd (busy.symm.trans (held inReset)) (by simp)
  silence := fun safe _ _ => safe
  idle := fun safe _ => safe

/-- Settles O56. -/
theorem stepKeepsConfigurationCacheAndLaneLaws : Obligations.StepKeepsConfigurationCacheAndLaneLaws :=
  fun _ _ stepped => ⟨fun law => configuration_coreKept.stepKept.step_keeps law stepped,
    fun law => cache_stepKept.step_keeps law stepped, fun law => lane_stepKept.step_keeps law stepped⟩

/-! ### The capacities -/

section
variable (s : State)

theorem abandon_store_le (t : Byte) : (s.abandon t).store.length ≤ s.store.length := List.length_filter_le _ _

theorem openArrival_store_le (t : Byte) : (s.openArrival t).store.length ≤ s.store.length := by
  unfold State.openArrival
  split
  · exact Nat.le_refl _
  · split
    · exact Nat.le_refl _
    · unfold State.makeRoom
      split
      · exact Nat.le_refl _
      · split
        · exact abandon_store_le s _
        · exact Nat.le_refl _

/-- A line joins only a store with room (R27, R30). -/
theorem lineArrival_store_le (room : s.store.length ≤ 8) (l : LineRecord) : (s.lineArrival l).store.length ≤ 8 := by
  unfold State.lineArrival
  split
  · exact room
  · split
    · exact room
    · split
      · exact room
      · split
        · exact room
        · split
          · rw [lineOverflow_eq]
            exact room
          next notFull =>
            rw [lineAppend_eq]
            simp only [Config.lineStoreSize] at notFull
            simp only [List.length_append, List.length_singleton]
            omega

theorem consume_store_le (t : Byte) : (s.consume t).store.length ≤ s.store.length := List.length_eraseP_le

theorem discardStale_store_le (t : Byte) (e fuel : Nat) :
    (State.discardStale t e fuel s).store.length ≤ s.store.length := by
  induction fuel generalizing s with
  | zero => exact Nat.le_refl _
  | succ n ih =>
    unfold State.discardStale
    split
    · exact Nat.le_refl _
    · split
      · exact (ih _).trans (consume_store_le s t)
      · exact Nat.le_refl _

theorem fetchNumber_store_le : s.fetchNumber.1.store.length ≤ s.store.length := by
  unfold State.fetchNumber
  split
  · exact Nat.le_refl _
  next t _ =>
    have discarded := discardStale_store_le s t s.lsq.expected s.store.length
    dsimp only
    split
    · exact discarded
    · split
      · exact (consume_store_le _ t).trans discarded
      · exact discarded

theorem obtain_store_le (r : Raster) : (s.obtain r).1.store.length ≤ s.store.length := by
  have fetched := fetchNumber_store_le s
  unfold State.obtain
  dsimp only
  split
  · simpa using fetched
  · split <;> simpa using fetched

/-- The walk of a line only takes lines out of the store (R31). -/
theorem walkLine_store_le (r : Raster) (e : Entry) (p : Nat) :
    (s.walkLine r e p).1.store.length ≤ s.store.length := by
  unfold State.walkLine
  split
  · exact obtain_store_le s r
  · have set : (if p = 0 then s.setCadence e else s).store = s.store := by split <;> rfl
    have dropped (x : State) :
        (if x.lsq.cadence = e.thinDivisor - 1 then x.dropNumber else x).store.length ≤ x.store.length := by
      split
      · exact fetchNumber_store_le x
      · exact Nat.le_refl _
    exact ((obtain_store_le _ r).trans (dropped _)).trans_eq (congrArg _ set)
  · exact Nat.le_refl _
  · exact Nat.le_refl _

theorem release_store_le : s.release.store.length ≤ s.store.length := by
  unfold State.release
  split
  · exact Nat.le_refl _
  · exact List.length_filter_le _ _

theorem abandonOlder_store_le (prime : Nat) : (s.abandonOlder prime).store.length ≤ s.store.length := by
  unfold State.abandonOlder
  rw [foldl_abandon]
  exact List.length_filter_le _ _

end

/-- The window lists of both banks are within capacity (R110). -/
def Cfs.WindowsFit (c : Cfs) : Prop :=
  c.staging.windows.length ≤ 8 ∧ ∀ b, c.active = some b → b.windows.length ≤ 8

theorem Cfs.WindowsFit.restage {c : Cfs} (fit : c.WindowsFit) (pending : Option Byte) :
    Cfs.WindowsFit { c with commitPending := pending }.restage := by
  refine ⟨?_, fit.2⟩
  unfold Cfs.restage
  cases active : c.active with
  | none => exact Nat.zero_le 8
  | some b => exact fit.2 b active

theorem Cfs.WindowsFit.atSessionClose {c : Cfs} (fit : c.WindowsFit) : c.atSessionClose.WindowsFit := by
  unfold Cfs.atSessionClose
  split
  · exact fit.restage c.commitPending
  · exact fit

theorem Cfs.WindowsFit.applyCommit {c : Cfs} (fit : c.WindowsFit) : c.applyCommit.WindowsFit :=
  ⟨fit.1, fun b active => by cases active; exact fit.1⟩

theorem applyPendingCommit_windowsFit {s : State} (fit : s.cfs.WindowsFit) : s.applyPendingCommit.cfs.WindowsFit := by
  unfold State.applyPendingCommit
  split
  · exact fit
  · exact fit.applyCommit

theorem dropLink_windowsFit {s : State} (fit : s.cfs.WindowsFit) : s.dropLink.cfs.WindowsFit := by
  cases session : s.mge.session with
  | none => rw [dropLink_of_closed session]; exact fit
  | some x => rw [dropLink_of_open session]; exact fit.atSessionClose

/-- The capacities outside the management and the lane: line store, pending palette list, window lists. -/
def Safe.CoreCapacities (s : State) : Prop :=
  s.store.length ≤ 8 ∧ s.ovc.palettePending.length ≤ 4 ∧ s.cfs.WindowsFit

theorem coreCapacities_coreKept : CoreKept Safe.CoreCapacities where
  same := fun {s t} law same => by
    unfold Safe.CoreCapacities
    rw [same.store, same.ovc, same.cfs]
    exact law
  reset := fun {s t} law reset => by
    have noPending : t.ovc.palettePending = [] := by
      rcases reset.ovc with kept | unknown
      · rw [kept]
      · rw [unknown]; rfl
    unfold Safe.CoreCapacities
    rw [reset.store, noPending, reset.cfs]
    exact ⟨Nat.zero_le 8, Nat.zero_le 4, Nat.zero_le 8, fun b active => by simp [State.cleared] at active⟩
  silence := fun law _ _ => law
  event := fun {s i t} ⟨store, palette, windows⟩ move => by
    have released : s.release.store.length ≤ 8 := (release_store_le s).trans store
    have applied : s.release.applyPendingCommit.cfs.WindowsFit :=
      applyPendingCommit_windowsFit (by simpa using windows)
    unfold Safe.CoreCapacities
    cases move with
    | linkReset _ cause _ counted packet =>
      have fit := dropLink_windowsFit (s := counted.loseLock cause) (by
        rcases packet with rfl | rfl <;> simpa using windows)
      have palette : (counted.loseLock cause).dropLink.ovc.palettePending.length ≤ 4 := by
        rcases packet with rfl | rfl <;> simpa using palette
      exact ⟨by simp [(dropLink_intake _).2.1], palette, fit⟩
    | openArrival _ lrx _ tag =>
      exact ⟨(openArrival_store_le { s with lrx := lrx } tag).trans store, by simpa using palette, by simpa using windows⟩
    | lineArrival _ lrx _ l =>
      exact ⟨lineArrival_store_le { s with lrx := lrx } store l, by simpa using palette, by simpa using windows⟩
    | idleExpiry => exact ⟨store, palette, Cfs.WindowsFit.atSessionClose windows⟩
    | activeLine r e p =>
      exact ⟨(walkLine_store_le s r e p).trans store, by simpa using palette, by simpa using windows⟩
    | waitReady _ prime r =>
      exact ⟨(abandonOlder_store_le s.countWaitLine.beginFrame prime).trans store, by simpa using palette,
        by simpa using windows⟩
    | frameEndOff => exact ⟨Nat.zero_le 8, Nat.zero_le 4, by simpa using applyPendingCommit_windowsFit applied⟩
    | frameEndHeld | frameEndWait => exact ⟨by simpa using released, Nat.zero_le 4, applied⟩
    | frameEndFree => exact ⟨by simpa using released, by simpa using palette, by simpa using applied⟩
    | dataEnd | lineHold => exact ⟨store, Nat.zero_le 4, windows⟩
    | _ => exact ⟨by simpa using store, by simpa using palette, by simpa using windows⟩
  command := fun {s c i t} ⟨store, palette, windows⟩ move => by
    unfold Safe.CoreCapacities
    cases move with
    | takeOver | closeSession => exact ⟨store, palette, Cfs.WindowsFit.atSessionClose windows⟩
    | stage _ bank _ room => exact ⟨store, palette, room windows.1, windows.2⟩
    | commitNow => exact ⟨store, palette, Cfs.WindowsFit.applyCommit windows⟩
    | discard => exact ⟨store, palette, Cfs.WindowsFit.restage windows none⟩
    | palettePending _ _ _ room => exact ⟨store, by simpa using room, windows⟩
    | startWait | hold | resumeWait => exact ⟨store, Nat.zero_le 4, windows⟩
    | stop => exact ⟨Nat.zero_le 8, Nat.zero_le 4, by simpa using applyPendingCommit_windowsFit windows⟩
    | commitLater => exact ⟨store, palette, windows⟩
    | _ => exact ⟨by simpa using store, by simpa using palette, by simpa using windows⟩

/-- The capacities of the management and the lane: command queue, reply queue, notice queue, reply cache. -/
def Safe.QueueCapacities (s : State) : Prop :=
  s.mge.commands.length ≤ 16 ∧ s.rlt.replies.length ≤ 16 ∧ s.rlt.notices.length ≤ 8 ∧ s.mge.cache.length ≤ 4

theorem Rlt.Raised.queues {r q : Rlt} (raised : r.Raised q) (few : r.notices.length ≤ 8) :
    q.notices.length ≤ 8 ∧ q.replies = r.replies := by
  induction raised with
  | none => exact ⟨few, rfl⟩
  | @raise p _ k _ d f ih =>
    refine ⟨?_, (p.raise_frame k d f).1.trans ih.2⟩
    rcases p.raise_cases k d f with ⟨-, same⟩ | ⟨-, room, joined⟩ | ⟨-, -, missed⟩
    · rw [same]
      exact ih.1
    · rw [joined]
      simpa using room
    · rw [missed]
      exact ih.1

/-- The arbiter only takes messages out of the queues. -/
theorem arbitrate_queues (r : Rlt) :
    r.arbitrate.replies.length ≤ r.replies.length ∧ r.arbitrate.notices.length ≤ r.notices.length := by
  rcases r.arbitrate_cases with ⟨-, -, same⟩ | ⟨x, rest, replies, sent⟩ | ⟨n, rest, notices, sent⟩
  · rw [same]
    exact ⟨Nat.le_refl _, Nat.le_refl _⟩
  · rw [sent, Rlt.sendReply_cons r x rest replies, replies]
    exact ⟨Nat.le_succ _, Nat.le_refl _⟩
  · rw [sent, Rlt.sendNotice_cons r n rest notices, notices]
    exact ⟨Nat.le_refl _, Nat.le_succ _⟩

theorem settle_queues (r : Rlt) (n : Nat) :
    (r.settle n).replies.length ≤ r.replies.length ∧ (r.settle n).notices.length ≤ r.notices.length := by
  rcases r.settle_cases n with ⟨-, same⟩ | ⟨-, x, rest, replies, sent⟩ | ⟨-, m, rest, notices, sent⟩
  · rw [same]
    exact ⟨Nat.le_refl _, Nat.le_refl _⟩
  · rw [sent, Rlt.sendReply_cons r x rest replies, replies]
    exact ⟨Nat.le_succ _, Nat.le_refl _⟩
  · rw [sent, Rlt.sendNotice_cons r m rest notices, notices]
    exact ⟨Nat.le_refl _, Nat.le_succ _⟩

theorem Safe.QueueCapacities.settle {u : State} (law : Safe.QueueCapacities u) : Safe.QueueCapacities u.settle := by
  obtain ⟨commands, replies, notices, cache⟩ := law
  have shorter := settle_queues u.rlt u.choices
  exact ⟨commands, shorter.1.trans replies, shorter.2.trans notices, cache⟩

theorem EventMove.commands {s t : State} {i : Instr} (move : EventMove s i t) (few : s.mge.commands.length ≤ 16) :
    t.mge.commands.length ≤ 16 := by
  cases move with
  | linkReset _ cause _ counted packet =>
    cases session : (counted.loseLock cause).mge.session with
    | none => rw [dropLink_of_closed session]; exact Nat.zero_le 16
    | some x => rw [dropLink_of_open session]; exact Nat.zero_le 16
  | commandArrival _ lrx _ c =>
    unfold State.commandArrival Config.commandQueueSize
    split
    next room => simpa using room
    next => exact few
  | _ => simpa using few

theorem CommandMove.commands {c : Command} {s t : State} {i : Instr} (move : CommandMove c s i t) :
    t.mge.commands = s.mge.commands := by
  cases move with
  | openSession | takeOver => rfl
  | _ => simp

theorem EventMove.queueCapacities {s t : State} {i : Instr} (move : EventMove s i t) (law : Safe.QueueCapacities s) :
    Safe.QueueCapacities t := by
  obtain ⟨commands, replies, notices, cache⟩ := law
  have cache : t.mge.cache.length ≤ 4 := by
    rcases move.cache with empty | ⟨same, -⟩
    · simp [empty]
    · rwa [same]
  rcases move.rlt with arbitrated | ⟨q, raised, same | dropped⟩
  · have shorter := arbitrate_queues { s.rlt with lane := .idle }
    rw [← arbitrated] at shorter
    exact ⟨move.commands commands, shorter.1.trans replies, shorter.2.trans notices, cache⟩
  · obtain ⟨few, kept⟩ := raised.queues notices
    exact ⟨move.commands commands, by rw [same, kept]; exact replies, by rw [same]; exact few, cache⟩
  · obtain ⟨few, -⟩ := raised.queues notices
    exact ⟨move.commands commands, by rw [dropped]; exact Nat.zero_le 16, by rw [dropped]; exact few, cache⟩

/-- An answer needs a free place in the reply queue (R145, R160). -/
theorem answer_queueCapacities {u : State} (law : Safe.QueueCapacities u) (room : u.rlt.replies.length < 16)
    (c : Command) (r : Response) : Safe.QueueCapacities (u.answer c r) := by
  obtain ⟨commands, -, notices, cache⟩ := law
  refine ⟨by simpa using commands, by simpa using room, by simpa using notices, ?_⟩
  rcases answer_eq u c r with queued | ⟨-, cached⟩
  · rw [queued]
    exact cache
  · rw [cached]
    exact length_cacheInsert_le cache _

theorem queueCapacities_stepKept : StepKept Safe.QueueCapacities where
  row := fun {s i t} law move => by
    obtain ⟨commands, replies, notices, cache⟩ := id law
    have reset (cause : ResetCause) (lane : Lane) : Safe.QueueCapacities (s.pinValues cause lane) :=
      ⟨Nat.zero_le 16, Nat.zero_le 16, Nat.zero_le 8, Nat.zero_le 4⟩
    have done {u : State} (law : Safe.QueueCapacities u) (detail : Word16) :
        Safe.QueueCapacities (u.raise .resetDone detail) := by
      obtain ⟨commands, replies, notices, cache⟩ := law
      refine ⟨commands, by simpa using replies, ?_, cache⟩
      rcases u.rlt.raise_cases .resetDone detail u.otg.frameNumber with ⟨-, same⟩ | ⟨-, room, joined⟩ | ⟨-, -, missed⟩
      · rw [State.raise_rlt, same]
        exact notices
      · rw [State.raise_rlt, joined]
        simpa using room
      · rw [State.raise_rlt, missed]
        exact notices
    cases move with
    | powerOnReset =>
      unfold powerOnReset
      split
      · exact reset .powerOn .idle
      · exact (done (u := s.powerOnValues) (reset .powerOn .idle) _).settle
    | pinReset => exact reset .pin .idle
    | release => exact (done (u := { s with resetHeld := false, mge.resetCause := .pin }) law _).settle
    | nothing => exact law
    | deviceReset i u _ move =>
      refine Safe.QueueCapacities.settle ?_
      cases move with
      | atReply => exact done (reset .device .idle) _
      | atLinkReset => exact done (reset .device s.rlt.lane) _
    | event i u _ move => exact (move.queueCapacities law).settle
    | queued i r _ room =>
      refine Safe.QueueCapacities.settle ⟨?_, by simpa [popped] using room, notices, cache⟩
      exact (List.tail_sublist _).length_le.trans commands
    | carriedOut i c u r _ room _ move =>
      have noReply : u.rlt.replies = s.rlt.replies ∧ u.rlt.notices.length ≤ 8 := by
        rcases move.rlt with raised | ⟨mask, -, set⟩
        · exact (raised.queues notices).symm
        · rw [set]
          exact ⟨rfl, notices⟩
      have kept : Safe.QueueCapacities u := by
        refine ⟨?_, noReply.1 ▸ replies, noReply.2, ?_⟩
        · rw [move.commands]
          exact (List.tail_sublist _).length_le.trans commands
        · rcases move.cache with empty | ⟨same, -⟩
          · simp [empty]
          · rw [same]
            exact cache
      exact (answer_queueCapacities kept (noReply.1 ▸ room) c r).settle
  pending := fun _ law => law
  lane := fun law _ => law
  silence := fun law _ _ => law
  idle := fun law _ => law

theorem safe_capacities_iff (s : State) :
    Safe.Capacities s ↔ Safe.CoreCapacities s ∧ Safe.QueueCapacities s := by
  constructor
  · rintro ⟨store, commands, replies, notices, cache, palette, staging, active⟩
    exact ⟨⟨store, palette, staging, active⟩, commands, replies, notices, cache⟩
  · rintro ⟨⟨store, palette, staging, active⟩, commands, replies, notices, cache⟩
    exact ⟨store, commands, replies, notices, cache, palette, staging, active⟩

/-- Every step keeps every collection within its capacity (Table 0-4). -/
theorem capacities_of_step {s t : State} (law : Safe.Capacities s) (stepped : step s = .next t) : Safe.Capacities t := by
  obtain ⟨core, queues⟩ := (safe_capacities_iff s).mp law
  exact (safe_capacities_iff t).mpr ⟨coreCapacities_coreKept.stepKept.step_keeps core stepped,
    queueCapacities_stepKept.step_keeps queues stepped⟩

/-! ### Every law -/

/-- Settles O57. -/
theorem stepKeepsMemoriesAndCapacities : Obligations.StepKeepsMemoriesAndCapacities := fun _ _ law stepped =>
  ⟨memories_coreKept.stepKept.step_keeps law.1 stepped, capacities_of_step law.2 stepped⟩

/-- Settles O60, from the laws one by one. -/
theorem stepKeepsEveryLaw : Obligations.StepKeepsEveryLaw := fun s t safe stepped => by
  obtain ⟨configuration, cache, lane⟩ := stepKeepsConfigurationCacheAndLaneLaws s t stepped
  obtain ⟨memories, capacities⟩ := stepKeepsMemoriesAndCapacities s t ⟨safe.memories, safe.capacities⟩ stepped
  obtain ⟨output, position⟩ := stepKeepsOutputLaw s t safe.configuration ⟨safe.output, safe.position⟩ stepped
  obtain ⟨frames, lines⟩ := stepKeepsFramesAndLines s t safe.output ⟨safe.frameList, safe.lineStore⟩ stepped
  exact {
    capacities := capacities
    memories := memories
    configuration := configuration safe.configuration
    output := output
    position := position
    cache := cache safe.cache
    lane := lane safe.lane
    link := link_coreKept.stepKept.step_keeps safe.link stepped
    lfsr := lfsr_coreKept.stepKept.step_keeps safe.lfsr stepped
    frameList := frames
    lineStore := lines }

/-- Settles O55: the reset values, law by law. -/
theorem resetIsSafe : Obligations.ResetIsSafe where
  capacities := ⟨Nat.zero_le 8, Nat.zero_le 16, Nat.zero_le 16, Nat.zero_le 8, Nat.zero_le 4, Nat.zero_le 4,
    Nat.zero_le 8, fun b active => by simp [State.reset, State.cleared] at active⟩
  memories := ⟨rfl, rfl, fun item mem => by simp [State.reset, State.cleared] at mem⟩
  configuration := ⟨fun b active => by simp [State.reset, State.cleared] at active,
    fun pending => by simp [State.reset, State.cleared] at pending⟩
  output := Otg.stopped_lawful State.cleared.otg false
  position := fun b active => by simp [State.reset, State.cleared] at active
  cache := Mge.cacheLawful_of_empty rfl
  lane := (safe_lane_iff _).mpr ⟨fun idle => by simp [State.reset] at idle, cleared_rlt_lawful _, fun held => by
    simp [State.reset, State.cleared] at held⟩
  link := ⟨Nat.zero_le 3, rfl, rfl⟩
  lfsr := by
    rw [safe_lfsr_iff]
    decide
  frameList := ((safe_intake_iff _).mpr (intake_of_empty rfl rfl rfl)).1
  lineStore := ((safe_intake_iff _).mpr (intake_of_empty rfl rfl rfl)).2

end Sys2Proof.Machine
end

section
/-! SUPPORT. A row that takes a command, in the terms of its command's own rule (R146), and the output commands
(R90 to R95). -/

namespace Sys2Proof.Machine

variable {s t : State} {c : Command} {r : Response} {i : Instr} {code : Byte}

section
variable {accepts : Byte → Bool} {free : Bool} {body : CommandBody}

/-- In session with a fresh tag a row does what its command's own rule says, then answers (R146, steps 3 to 5). -/
theorem exec_inSession (row : exec i s = .next (take accepts free body s)) (atHead : AtHead s c code)
    (session : InSession s c) (accepted : accepts code = true) (outcome : body c (popped s) = (t, r)) :
    exec i s = .next (t.answer c r).settle := by
  rw [row, take_inSession atHead session accepted, outcome]

/-- The same of the three commands valid out of epoch, in session or not. -/
theorem exec_reaching (row : exec i s = .next (take accepts true body s)) (atHead : AtHead s c code)
    (reached : reaches s c) (accepted : accepts code = true) (outcome : body c (popped s) = (t, r)) :
    exec i s = .next (t.answer c r).settle := by
  rw [row, take_free atHead reached accepted, outcome]

end

/-! ### START_OUTPUT (R91) -/

theorem startOutputBody_locked {b : Bank} (noArgs : c.args = []) (off : s.otg.output = .off)
    (active : s.cfs.active = some b) (locked : b.raster.syncMode = .locked) :
    startOutputBody c s = (s.enterWaitFrame, Response.plain .done) := by
  simp [startOutputBody, noArgs, off, active, locked]

theorem startOutputBody_free {b : Bank} (noArgs : c.args = []) (off : s.otg.output = .off)
    (active : s.cfs.active = some b) (free : b.raster.syncMode = .free) :
    startOutputBody c s = (s.frameStartFree, Response.plain .done) := by
  simp [startOutputBody, noArgs, off, active, free]

theorem startOutputBody_wrongState (noArgs : c.args = []) (wrong : s.otg.output ≠ .off ∨ s.cfs.active = none) :
    startOutputBody c s = (s, Response.plain .wrongState) := by
  rcases wrong with running | empty
  · cases output : s.otg.output with
    | off => exact absurd output running
    | waitFrame | active | held => simp [startOutputBody, noArgs, output]
  · simp [startOutputBody, noArgs, empty]

/-- Settles O26: one case of R91 each. -/
theorem startOutputOutcomes : Obligations.StartOutputOutcomes := by
  intro s c atHead session noArgs
  refine ⟨fun b off active locked => ?locked, fun b off active free => ?free, fun wrong => ?wrongState⟩
  case locked =>
    exact exec_inSession rfl atHead session (by decide) (startOutputBody_locked noArgs off active locked)
  case free => exact exec_inSession rfl atHead session (by decide) (startOutputBody_free noArgs off active free)
  case wrongState => exact exec_inSession rfl atHead session (by decide) (startOutputBody_wrongState noArgs wrong)

/-! ### STOP_OUTPUT (R92) -/

theorem stopOutputBody_active (noArgs : c.args = []) (active : s.otg.output = .active)
    (noStop : s.otg.stopPending = false) :
    stopOutputBody c s = (s.requestStop, Response.plain .accepted) := by
  simp [stopOutputBody, noArgs, active, noStop]

theorem stopOutputBody_off (noArgs : c.args = []) (stopped : s.otg.output = .waitFrame ∨ s.otg.output = .held) :
    stopOutputBody c s = (s.enterOff, Response.plain .done) := by
  rcases stopped with output | output <;> simp [stopOutputBody, noArgs, output]

theorem stopOutputBody_wrongState (noArgs : c.args = [])
    (wrong : (s.otg.output = .active ∧ s.otg.stopPending = true) ∨ s.otg.output = .off) :
    stopOutputBody c s = (s, Response.plain .wrongState) := by
  rcases wrong with ⟨active, stop⟩ | off
  · simp [stopOutputBody, noArgs, active, stop]
  · simp [stopOutputBody, noArgs, off]

/-- Settles O27: one case of R92 each. -/
theorem stopOutputOutcomes : Obligations.StopOutputOutcomes := by
  intro s c atHead session noArgs
  refine ⟨fun active noStop => ?request, fun stopped => ?off, fun wrong => ?wrongState⟩
  case request => exact exec_inSession rfl atHead session (by decide) (stopOutputBody_active noArgs active noStop)
  case off => exact exec_inSession rfl atHead session (by decide) (stopOutputBody_off noArgs stopped)
  case wrongState => exact exec_inSession rfl atHead session (by decide) (stopOutputBody_wrongState noArgs wrong)

/-! ### HOLD_OUTPUT (R93) -/

theorem decodeHoldArgs_eq_some {k : HoldKind} {n : Byte} (args : c.args = [n])
    (kind : (k = .line ∧ n = 0) ∨ (k = .frame ∧ n = 1)) :
    decodeHoldArgs c.args = some k ∧ byteOf k.number = n ∧ BitVec.ofNat 16 k.number = detailOf n := by
  rcases kind with ⟨rfl, rfl⟩ | ⟨rfl, rfl⟩ <;> rw [args] <;> decide

section
variable {k : HoldKind} (kind : decodeHoldArgs c.args = some k)
include kind

theorem holdOutputBody_active (active : s.otg.output = .active) (noHold : s.otg.holdPending = none)
    (noStop : s.otg.stopPending = false) :
    holdOutputBody c s = ({ s with otg.holdPending := some k },
      { status := .accepted, detail := byteOf k.number, data := [] }) := by
  simp [holdOutputBody, kind, active, noHold, noStop]

theorem holdOutputBody_waitFrame (waiting : s.otg.output = .waitFrame) :
    holdOutputBody c s = (s.discardWaitCount.enterHeld k .boundary,
      { status := .done, detail := byteOf k.number, data := [] }) := by
  simp [holdOutputBody, kind, waiting]

theorem holdOutputBody_wrongState
    (wrong : (s.otg.output = .active ∧ (s.otg.holdPending.isSome = true ∨ s.otg.stopPending = true))
      ∨ s.otg.output = .held ∨ s.otg.output = .off) :
    holdOutputBody c s = (s, { status := .wrongState, detail := byteOf k.number, data := [] }) := by
  rcases wrong with ⟨active, requested⟩ | held | off
  · simp [holdOutputBody, kind, active, requested]
  · simp [holdOutputBody, kind, held]
  · simp [holdOutputBody, kind, off]

end

/-- Settles O28: one case of R93 each; the argument byte is the number of the hold kind. -/
theorem holdOutputOutcomes : Obligations.HoldOutputOutcomes := by
  intro s c k n atHead session args kind
  obtain ⟨decoded, number, detail⟩ := decodeHoldArgs_eq_some args kind
  rw [← detail, ← number]
  refine ⟨fun active noHold noStop => ?request, fun waiting => ?held, fun wrong => ?wrongState⟩
  case request =>
    exact exec_inSession rfl atHead session (by decide) (holdOutputBody_active decoded active noHold noStop)
  case held => exact exec_inSession rfl atHead session (by decide) (holdOutputBody_waitFrame decoded waiting)
  case wrongState => exact exec_inSession rfl atHead session (by decide) (holdOutputBody_wrongState decoded wrong)

/-! ### RESUME_OUTPUT (R95) -/

theorem resumeOutputBody_cancel {k : HoldKind} (noArgs : c.args = []) (active : s.otg.output = .active)
    (hold : s.otg.holdPending = some k) :
    resumeOutputBody c s = ({ s with otg.holdPending := none }, Response.plain .done) := by
  simp [resumeOutputBody, noArgs, active, hold]

theorem resumeOutputBody_midFrame {n : Nat} (noArgs : c.args = []) (held : s.otg.output = .held)
    (position : s.otg.holdPosition = .midFrame n) :
    resumeOutputBody c s = (s.resumeFrame n, Response.plain .done) := by
  simp [resumeOutputBody, noArgs, held, position]

theorem resumeOutputBody_locked {b : Bank} (noArgs : c.args = []) (held : s.otg.output = .held)
    (position : s.otg.holdPosition = .boundary) (active : s.cfs.active = some b)
    (locked : b.raster.syncMode = .locked) :
    resumeOutputBody c s = (s.enterWaitFrame, Response.plain .done) := by
  simp [resumeOutputBody, noArgs, held, position, State.syncMode, active, locked]

theorem resumeOutputBody_free {b : Bank} (noArgs : c.args = []) (held : s.otg.output = .held)
    (position : s.otg.holdPosition = .boundary) (active : s.cfs.active = some b)
    (free : b.raster.syncMode = .free) :
    resumeOutputBody c s = (s.frameStartFree, Response.plain .done) := by
  simp [resumeOutputBody, noArgs, held, position, State.syncMode, active, free]

theorem resumeOutputBody_wrongState (noArgs : c.args = [])
    (wrong : (s.otg.output = .active ∧ s.otg.holdPending = none) ∨ s.otg.output = .waitFrame ∨ s.otg.output = .off) :
    resumeOutputBody c s = (s, Response.plain .wrongState) := by
  rcases wrong with ⟨active, noHold⟩ | waiting | off
  · simp [resumeOutputBody, noArgs, active, noHold]
  · simp [resumeOutputBody, noArgs, waiting]
  · simp [resumeOutputBody, noArgs, off]

/-- Settles O29: one case of R95 each. -/
theorem resumeOutputOutcomes : Obligations.ResumeOutputOutcomes := by
  intro s c atHead session noArgs
  refine ⟨fun k active hold => ?cancel, fun n held position => ?midFrame, fun b held position active =>
    ⟨fun locked => ?locked, fun free => ?free⟩, fun wrong => ?wrongState⟩
  case cancel => exact exec_inSession rfl atHead session (by decide) (resumeOutputBody_cancel noArgs active hold)
  case midFrame =>
    exact exec_inSession rfl atHead session (by decide) (resumeOutputBody_midFrame noArgs held position)
  case locked =>
    exact exec_inSession rfl atHead session (by decide) (resumeOutputBody_locked noArgs held position active locked)
  case free =>
    exact exec_inSession rfl atHead session (by decide) (resumeOutputBody_free noArgs held position active free)
  case wrongState => exact exec_inSession rfl atHead session (by decide) (resumeOutputBody_wrongState noArgs wrong)

end Sys2Proof.Machine
end

section
/-! SUPPORT. Sessions (R150 to R152), SET_NOTICES and DEVICE_RESET (R156, R157), the refusals before execution (R146, steps
1 and 2) and the answer (R146, steps 4 and 5). -/

namespace Sys2Proof.Machine

variable {s t : State} {c : Command} {r : Response} {i : Instr} {code : Byte}

/-! ### OPEN_SESSION (R150) -/

section
variable {takeover hi lo : Byte} (args : c.args = [takeover, hi, lo]) (flag : takeover = 0 ∨ takeover = 1)
include args flag

/-- The arguments of OPEN_SESSION in their encoding: the takeover byte and the idle limit. -/
theorem openSession_args :
    (c.args.length = 3 ∧ (byteAt c.args 0).toNat ≤ 1) ∧ byteAt c.args 0 = takeover ∧ wordAt2 c.args 1 = hi ++ lo := by
  rw [args]
  refine ⟨⟨rfl, ?_⟩, rfl, rfl⟩
  rcases flag with rfl | rfl <;> simp

theorem openSessionBody_open (closed : s.mge.session = none) (fresh : s.mge.lastEpoch ≠ some c.epoch) :
    openSessionBody c s = (s.openSession c.epoch (hi ++ lo), Response.plain .done) := by
  obtain ⟨encoded, -, limit⟩ := openSession_args args flag
  simp [openSessionBody, encoded, closed, fresh, limit]

theorem openSessionBody_staleEpoch (closed : s.mge.session = none) (last : s.mge.lastEpoch = some c.epoch) :
    openSessionBody c s = (s, Response.plain .staleEpoch) := by
  obtain ⟨encoded, -, -⟩ := openSession_args args flag
  simp [openSessionBody, encoded, closed, last]

theorem openSessionBody_wrongState {x : Session} (opened : s.mge.session = some x)
    (kept : takeover = 0 ∨ x.epoch = c.epoch) : openSessionBody c s = (s, Response.plain .wrongState) := by
  obtain ⟨encoded, byte, -⟩ := openSession_args args flag
  rw [← byte] at kept
  simp only [openSessionBody, encoded, opened, kept, and_self, not_true_eq_false, if_false, if_true]

theorem openSessionBody_takeOver {x : Session} (opened : s.mge.session = some x) (takes : takeover = 1)
    (other : x.epoch ≠ c.epoch) :
    openSessionBody c s = (s.closeSession.openSession c.epoch (hi ++ lo), Response.plain .done) := by
  obtain ⟨encoded, byte, limit⟩ := openSession_args args flag
  simp [openSessionBody, encoded, opened, byte, takes, other, limit]

end

/-- R141: a session close restages unless a commit is pending. -/
theorem Cfs.atSessionClose_eq (f : Cfs) :
    f.atSessionClose
      = if f.commitPending.isSome then f else { f with staging := f.active.getD Bank.default } := by
  unfold Cfs.atSessionClose Cfs.restage
  cases f.commitPending <;> rfl

/-- Settles O36: one case of R150 each; a takeover closes the session it finds (R151). -/
theorem openSessionOutcomes : Obligations.OpenSessionOutcomes := by
  intro s c takeover hi lo atHead reached args flag
  refine ⟨fun closed fresh => ?opens, fun closed last => ?staleEpoch, fun x opened kept => ?wrongState,
    fun x opened takes other => ?takeOver⟩
  case opens =>
    exact exec_reaching rfl atHead reached (by decide) (openSessionBody_open args flag closed fresh)
  case staleEpoch =>
    exact exec_reaching rfl atHead reached (by decide) (openSessionBody_staleEpoch args flag closed last)
  case wrongState =>
    exact exec_reaching rfl atHead reached (by decide) (openSessionBody_wrongState args flag opened kept)
  case takeOver =>
    rw [← Cfs.atSessionClose_eq]
    exact exec_reaching rfl atHead reached (by decide) (openSessionBody_takeOver args flag opened takes other)

/-! ### CLOSE_SESSION and the idle timer (R151, R152) -/

theorem closeSessionBody_close (noArgs : c.args = []) :
    closeSessionBody c s = (s.closeSession, Response.plain .done) := by
  simp [closeSessionBody, noArgs]

/-- No command is in epoch once its session is closed. -/
theorem closeSession_inEpoch (s : State) (c : Command) : s.closeSession.inEpoch c = false := rfl

/-- Settles O37: both closes do the same (R151, R152); the reply of CLOSE_SESSION finds no session and is not cached. -/
theorem sessionCloses : Obligations.SessionCloses := by
  refine ⟨fun s c atHead session noArgs => ?command, fun s x running opened limit => ?expiry⟩
  case command =>
    rw [exec_inSession rfl atHead session (by decide) (closeSessionBody_close noArgs),
      answer_of_not_inEpoch (closeSession_inEpoch _ c), ← Cfs.atSessionClose_eq]
    rfl
  case expiry =>
    have runs : s.idleTimerRuns = true := by simpa [State.idleTimerRuns, opened] using limit
    have expires : s.expireSession = s.closeSession.raise .sessionExpired x.epoch := by
      simp [State.expireSession, opened]
    rw [← Cfs.atSessionClose_eq]
    exact congrArg _ ((event_acts running runs).trans (congrArg State.settle expires))

/-! ### SET_NOTICES and DEVICE_RESET (R156, R157) -/

theorem setNoticesBody_set {hi lo : Byte} (args : c.args = [hi, lo]) (allowed : (hi ++ lo : Word16) &&& 0xF003 = 0) :
    setNoticesBody c s = ({ s with rlt.mask := hi ++ lo }, Response.plain .done) := by
  have mask : wordAt2 c.args 0 = hi ++ lo := by rw [args]; rfl
  have two : c.args.length = 2 := by rw [args]; rfl
  rw [← mask] at allowed ⊢
  exact if_pos ⟨two, allowed⟩

theorem setNoticesBody_reserved {hi lo : Byte} (args : c.args = [hi, lo])
    (reserved : (hi ++ lo : Word16) &&& 0xF003 ≠ 0) :
    setNoticesBody c s = (s, Response.plain .badArgument) := by
  have mask : wordAt2 c.args 0 = hi ++ lo := by rw [args]; rfl
  rw [← mask] at reserved
  exact if_neg fun encoded => reserved encoded.2

theorem deviceResetBody_request (noArgs : c.args = []) :
    deviceResetBody c s = ({ s with mge.resetPending := true }, Response.plain .done) := by
  simp [deviceResetBody, noArgs]

/-- Settles O38. -/
theorem setNoticesAndDeviceReset : Obligations.SetNoticesAndDeviceReset := by
  intro s c session
  refine ⟨fun hi lo atHead args allowed => ?set, fun hi lo atHead args reserved => ?reserved,
    fun atHead noArgs => ?request⟩
  case set => exact exec_inSession rfl atHead session (by decide) (setNoticesBody_set args allowed)
  case reserved => exact exec_inSession rfl atHead session (by decide) (setNoticesBody_reserved args reserved)
  case request => exact exec_inSession rfl atHead session (by decide) (deviceResetBody_request noArgs)

/-! ### Refusals before execution (R146, steps 1 and 2) -/

section
variable {free : Bool} {body : CommandBody}

theorem process_cached {record : CacheRecord} (inEpoch : s.inEpoch c = true) (cached : s.cached? c.tag = some record) :
    s.process c free body = if record.fingerprint = c.fingerprint
      then s.queueReply { record.reply with replayed := true } else s.refuse c .tagConflict := by
  simp [State.process, inEpoch, cached]

theorem process_outOfEpoch (outOfEpoch : s.inEpoch c = false) :
    s.process c false body = s.refuse c (if s.mge.session.isNone then .noSession else .staleEpoch) := by
  simp [State.process, outOfEpoch]

end

/-- Settles O40: every row processes its head by the same steps, which end before its own rule is reached. -/
theorem replayConflictAndEpochRefusals : Obligations.ReplayConflictAndEpochRefusals := by
  rintro s _ c i code free row atHead rfl
  obtain ⟨body, processed⟩ := exec_commandRow row atHead
  rw [processed]
  refine ⟨fun record inEpoch cached => ?cached, fun notFree closed => ?noSession,
    fun x notFree opened other => ?staleEpoch⟩
  case cached =>
    rw [process_cached (s := popped s) inEpoch cached]
    exact ⟨fun same => by rw [if_pos same], fun conflict => by rw [if_neg conflict]; rfl⟩
  case noSession =>
    have outOfEpoch : (popped s).inEpoch c = false := by rw [popped_inEpoch]; simp [State.inEpoch, closed]
    have none : (popped s).mge.session.isNone = true := by simp [popped, closed]
    rw [notFree, process_outOfEpoch outOfEpoch, if_pos none]
    rfl
  case staleEpoch =>
    have outOfEpoch : (popped s).inEpoch c = false := by rw [popped_inEpoch]; simp [State.inEpoch, opened, other]
    have some : (popped s).mge.session.isNone ≠ true := by simp [popped, opened]
    rw [notFree, process_outOfEpoch outOfEpoch, if_neg some]
    rfl

/-! ### The answer (R146 to R148) -/

theorem answer_of_inEpoch (inEpoch : s.inEpoch c = true) (r : Response) :
    s.answer c r = { s.queueReply (c.reply r) with
      mge.cache := cacheInsert s.mge.cache { tag := c.tag, fingerprint := c.fingerprint, reply := c.reply r } } := by
  have inEpochStill : (s.queueReply (c.reply r)).inEpoch c = true := inEpoch
  rw [State.answer]
  exact if_pos inEpochStill

theorem cacheInsert_of_room {cache : List CacheRecord} (room : cache.length < 4) (record : CacheRecord) :
    cacheInsert cache record = cache ++ [record] := by
  simp [cacheInsert, Config.replyCacheSize, room]

theorem cacheInsert_of_full {rest : List CacheRecord} (full : rest.length = 3) (oldest record : CacheRecord) :
    cacheInsert (oldest :: rest) record = rest ++ [record] := by
  simp [cacheInsert, Config.replyCacheSize, full]

/-- Settles O41: the reply of R147, its place in the queue, and its record in the cache (R148). -/
theorem answerQueuesAndCaches : Obligations.AnswerQueuesAndCaches := by
  rintro s c r _ _ rfl rfl
  refine ⟨rfl, fun _ => rfl, rfl, rfl, rfl, rfl, inEpoch_iff s c, cached?_eq_none_iff s c.tag, fun x found => ?found,
    fun outOfEpoch => ?outOfEpoch, fun inEpoch room => ?room, fun oldest rest inEpoch cache full => ?full⟩
  case found => exact ⟨List.mem_of_find?_eq_some found, by simpa using List.find?_some found⟩
  case outOfEpoch => exact answer_of_not_inEpoch outOfEpoch r
  case room =>
    rw [answer_of_inEpoch inEpoch, cacheInsert_of_room room]
    rfl
  case full =>
    rw [answer_of_inEpoch inEpoch, cache, cacheInsert_of_full full]
    rfl

end Sys2Proof.Machine
end

section
/-! SUPPORT. Bytes and words of a list (Tables 1-1, 9-4, 10-1, 10-2): reading past a first part, and a register read back
from its bytes; then the status record (R155). -/

namespace Sys2Proof.Machine

variable {s : State} {c : Command}

/-! ### Bytes and words of a list -/

theorem byteAt_append_left {l : List Byte} {i : Nat} (inside : i < l.length) (r : List Byte) :
    byteAt (l ++ r) i = byteAt l i := by
  simp [byteAt, List.getElem?_append_left inside]

theorem byteAt_drop (b : List Byte) (n i : Nat) : byteAt (b.drop n) i = byteAt b (n + i) := by
  simp [byteAt, List.getElem?_drop]

theorem wordAt2_append_right (l r : List Byte) (i : Nat) : wordAt2 (l ++ r) (l.length + i) = wordAt2 r i := by
  simp [wordAt2, byteAt_append_right, Nat.add_assoc]

theorem wordAt4_append_right (l r : List Byte) (i : Nat) : wordAt4 (l ++ r) (l.length + i) = wordAt4 r i := by
  simp [wordAt4, wordAt2_append_right, Nat.add_assoc]

/-- A 32-bit register survives its four bytes. -/
theorem wordAt4_wordBytes4 (w : Word32) (rest : List Byte) : wordAt4 (wordBytes4 w ++ rest) 0 = w := by
  show (w.extractLsb' 24 8 ++ w.extractLsb' 16 8) ++ (w.extractLsb' 8 8 ++ w.extractLsb' 0 8) = w
  apply BitVec.eq_of_getLsbD_eq
  intro i inside
  simp only [BitVec.getLsbD_append, BitVec.getLsbD_extractLsb']
  rcases Nat.lt_or_ge i 8 with low | low
  · simp [low, show i < 16 by omega]
  rcases Nat.lt_or_ge i 16 with second | second
  · simp [second, show ¬i < 8 by omega, show i - 8 < 8 by omega, show 8 + (i - 8) = i by omega]
  rcases Nat.lt_or_ge (i - 16) 8 with third | third
  · simp [third, show ¬i < 16 by omega, show 16 + (i - 16) = i by omega]
  · simp [show ¬i < 16 by omega, show ¬i - 16 < 8 by omega, show i - 16 - 8 < 8 by omega,
      show 24 + (i - 16 - 8) = i by omega]

/-! ### The packed bytes of the status record (Table 9-4) -/

theorem ResetCause.number_mem (k : ResetCause) :
    (k, byteOf k.number) ∈ [(ResetCause.powerOn, (0 : Byte)), (.pin, 1), (.device, 2)] := by
  cases k <;> decide

theorem OutputState.number_mem (k : OutputState) :
    (k, byteOf k.number) ∈ [(OutputState.off, (0 : Byte)), (.waitFrame, 1), (.active, 2), (.held, 3)] := by
  cases k <;> decide

/-- Byte 10 of the record: two bits, one bit, two bits, and zeros. -/
theorem packedRequest_reads : ∀ hold < 3, ∀ stop : Bool, ∀ position < 3,
    ∀ x : Byte, x = BitVec.ofNat 8 (hold + (if stop then 4 else 0) + position * 8) →
      x.extractLsb' 0 2 = BitVec.ofNat 2 hold ∧ x.getLsbD 2 = stop ∧ x.extractLsb' 3 2 = BitVec.ofNat 2 position
        ∧ x.extractLsb' 5 3 = 0 := by
  simp only [forall_eq]
  decide

theorem Otg.requestByte_packed (o : Otg) : ∃ hold position, hold < 3 ∧ position < 3
    ∧ o.requestByte = BitVec.ofNat 8 (hold + (if o.stopPending then 4 else 0) + position * 8)
    ∧ (o.holdPending, BitVec.ofNat 2 hold)
        ∈ [(none, (0 : BitVec 2)), (some HoldKind.line, 1), (some HoldKind.frame, 2)]
    ∧ (o.holdPosition = .none → position = 0) ∧ (∀ n, o.holdPosition = .midFrame n → position = 1)
    ∧ (o.holdPosition = .boundary → position = 2) := by
  unfold Otg.requestByte
  refine ⟨_, _, ?hold, ?position, rfl, ?holds, ?none, ?midFrame, ?boundary⟩
  case hold => cases o.holdPending with | none => decide | some k => cases k <;> decide
  case holds => cases o.holdPending with | none => decide | some k => cases k <;> decide
  case position => cases o.holdPosition <;> simp
  case none => exact fun here => by rw [here]
  case midFrame => exact fun n here => by rw [here]
  case boundary => exact fun here => by rw [here]

theorem Cfs.configurationByte_reads (f : Cfs) :
    f.configurationByte.getLsbD 0 = f.active.isNone ∧ f.configurationByte.getLsbD 1 = f.commitPending.isSome
      ∧ f.configurationByte.extractLsb' 2 6 = 0 := by
  unfold Cfs.configurationByte
  cases f.active.isNone <;> cases f.commitPending.isSome <;> decide

/-! ### READ_STATUS and an unknown code (R155, R146) -/

theorem readStatusBody_read (noArgs : c.args = []) :
    readStatusBody c s = (s, { status := .done, detail := 0, data := s.statusRecord }) := by
  simp [readStatusBody, noArgs]

/-- Settles O35: the record of Table 9-4 field by field, and the refusal of a code that Table 9-2 does not list. -/
theorem statusAndUnknown : Obligations.StatusAndUnknown := by
  intro s c
  refine ⟨fun atHead reached noArgs => ⟨(popped s).statusRecord, ?reads, length_statusRecord _, ?fields⟩,
    fun code atHead unknown session => ?unknownCode⟩
  case reads => exact exec_reaching rfl atHead reached (by decide) (readStatusBody_read noArgs)
  case unknownCode =>
    exact exec_inSession rfl atHead session (by simpa using unknown) (rfl : unknownCommandBody c (popped s) = _)
  case fields =>
    obtain ⟨hold, position, holdLt, positionLt, packed, holds, atNone, atMidFrame, atBoundary⟩ :=
      s.otg.requestByte_packed
    obtain ⟨holdBits, stopBit, positionBits, zeros⟩ :=
      packedRequest_reads hold holdLt s.otg.stopPending position positionLt _ packed
    obtain ⟨emptyBit, pendingBit, unused⟩ := s.cfs.configurationByte_reads
    refine ⟨s.mge.resetCause.number_mem, fun closed => ?closed, fun x opened => ?opened, fun last => ?noLast,
      fun e last => ?last, s.otg.output.number_mem, ?holds, stopBit, fun here => ?atNone, fun n here => ?atMidFrame,
      fun here => ?atBoundary, zeros, wordAt4_wordBytes4 _ [], emptyBit, pendingBit, unused, rfl, ?commands, rfl, rfl,
      rfl, rfl, rfl, ?bound, rfl, rfl, wordAt2_wordBytes2 _ [], wordAt2_wordBytes2 _ []⟩
    case closed =>
      have closedHere : (popped s).mge.session = none := closed
      unfold State.statusRecord
      rw [closedHere]
      exact ⟨rfl, wordAt2_wordBytes2 0 [], wordAt2_wordBytes2 0 []⟩
    case opened =>
      have openedHere : (popped s).mge.session = some x := opened
      unfold State.statusRecord
      rw [openedHere]
      exact ⟨rfl, wordAt2_wordBytes2 _ [], wordAt2_wordBytes2 _ []⟩
    case noLast =>
      have lastHere : (popped s).mge.lastEpoch = none := last
      unfold State.statusRecord
      rw [lastHere]
      exact ⟨rfl, wordAt2_wordBytes2 0 []⟩
    case last =>
      have lastHere : (popped s).mge.lastEpoch = some e := last
      unfold State.statusRecord
      rw [lastHere]
      exact ⟨rfl, wordAt2_wordBytes2 _ []⟩
    case holds =>
      show (s.otg.holdPending, s.otg.requestByte.extractLsb' 0 2) ∈ _
      rw [holdBits]
      exact holds
    case atNone => exact positionBits.trans (by rw [atNone here]; rfl)
    case atMidFrame => exact positionBits.trans (by rw [atMidFrame n here]; rfl)
    case atBoundary => exact positionBits.trans (by rw [atBoundary here]; rfl)
    case commands =>
      show BitVec.ofNat 8 s.mge.commands.tail.length = _
      rw [List.length_tail]
    case bound =>
      show byteOf (bit s.lsq.bound.isSome) = _
      cases s.lsq.bound <;> rfl

end Sys2Proof.Machine
end

section
/-! SUPPORT. What the decoders of section 8.2 admit, and the staging writes (R127 to R133). -/

namespace Sys2Proof.Machine

variable {s t : State} {c : Command} {code : Byte} {i : Instr}

/-! ### What the decoders admit (Tables 8-1 to 8-3) -/

theorem decodeOptionIndex_isSome_iff (x : Byte) :
    (decodeOptionIndex x).isSome = true ↔ x.toNat ≤ 15 ∨ x = 0xFF := by
  unfold decodeOptionIndex
  split
  next absent => simp [absent]
  next present => split <;> simp_all

theorem decodeAction_isSome_iff (x : Byte) : (decodeAction x).isSome = true ↔ x.toNat ≤ 3 := by
  revert x
  decide

theorem reservedModes_iff : ∀ x : Byte, x.getLsbD 6 = false ∧ x.getLsbD 7 = false ↔ x.toNat < 64 := by
  decide

theorem decodeRaster_isSome_iff (b : List Byte) : (decodeRaster b).isSome = true ↔ rasterEncoded b := by
  have blank := decodeOptionIndex_isSome_iff (byteAt b 25)
  unfold decodeRaster rasterEncoded
  rw [← reservedModes_iff, ← blank]
  dsimp only
  split
  next admitted =>
    obtain ⟨length, fields, bits⟩ := admitted
    have fields : ∀ k ∈ [0, 2, 4, 6, 8, 10, 12, 15, 20], natAt2 b k ≤ 4095 := by simpa using fields
    cases decodeOptionIndex (byteAt b 25) with
    | none => exact iff_of_false (by simp) (by simp)
    | some index => exact iff_of_true rfl ⟨length, fields, bits, rfl⟩
  next refused =>
    refine iff_of_false (by simp) fun ⟨length, fields, bits, _⟩ => refused ⟨length, ?_, bits⟩
    simpa using fields

theorem decodeEntry_isSome_iff (b : List Byte) :
    (decodeEntry b).isSome = true ↔ b.length = 9 ∧ entryEncoded b 0 := by
  have action := decodeAction_isSome_iff (byteAt b 2)
  have patternB := decodeOptionIndex_isSome_iff (byteAt b 6)
  unfold decodeEntry entryEncoded
  rw [Nat.zero_add, Nat.zero_add, Nat.zero_add, Nat.zero_add, Nat.zero_add, ← action, ← patternB]
  split
  next admitted =>
    obtain ⟨length, low, high, phase, slot, invert⟩ := admitted
    cases decodeAction (byteAt b 2) <;> cases decodeOptionIndex (byteAt b 6) <;>
      simp [length, low, high, phase, slot, invert]
  next refused =>
    exact iff_of_false (by simp) fun ⟨length, low, high, _, phase, slot, _, invert⟩ =>
      refused ⟨length, low, high, phase, slot, invert⟩

theorem entryEncoded_iff_of_byteAt {b d : List Byte} {k n : Nat} (same : ∀ j < 9, byteAt b (k + j) = byteAt d (n + j)) :
    entryEncoded b k ↔ entryEncoded d n := by
  have first : byteAt b k = byteAt d n := same 0 (by decide)
  unfold entryEncoded natAt2
  rw [first, same 1 (by decide), same 2 (by decide), same 4 (by decide), same 5 (by decide), same 6 (by decide),
    same 7 (by decide)]

theorem byteAt_take {b : List Byte} {n j : Nat} (inside : j < n) : byteAt (b.take n) j = byteAt b j := by
  simp [byteAt, inside]

theorem decodeEntries_isSome_iff (m : Nat) (b : List Byte) :
    (decodeEntries m b).isSome = true ↔ b.length = 9 * m ∧ ∀ k < m, entryEncoded b (9 * k) := by
  induction m generalizing b with
  | zero => simp [decodeEntries, List.isEmpty_iff]
  | succ m ih =>
    have head : entryEncoded (b.take 9) 0 ↔ entryEncoded b (9 * 0) := entryEncoded_iff_of_byteAt fun j inside => by
      simpa using byteAt_take inside
    have tail (k : Nat) : entryEncoded (b.drop 9) (9 * k) ↔ entryEncoded b (9 * (k + 1)) :=
      entryEncoded_iff_of_byteAt fun j _ => by rw [byteAt_drop]; congr 1; omega
    have both : (decodeEntries (m + 1) b).isSome = true
        ↔ (decodeEntry (b.take 9)).isSome = true ∧ (decodeEntries m (b.drop 9)).isSome = true := by
      rw [decodeEntries]
      cases decodeEntry (b.take 9) <;> cases decodeEntries m (b.drop 9) <;> simp
    rw [both, decodeEntry_isSome_iff, ih, head]
    simp only [tail, List.length_take, List.length_drop]
    constructor
    · rintro ⟨⟨length, first⟩, rest, others⟩
      refine ⟨by omega, fun k inside => ?_⟩
      cases k with
      | zero => exact first
      | succ k => exact others k (by omega)
    · rintro ⟨length, all⟩
      exact ⟨⟨by omega, all 0 (by omega)⟩, by omega, fun k inside => all (k + 1) (by omega)⟩

theorem decodePattern_isSome_iff (b : List Byte) : (decodePattern b).isSome = true ↔ patternEncoded b := by
  unfold decodePattern patternEncoded bytesForBits
  dsimp only
  split
  next refused =>
    refine iff_of_false (by simp) ?_
    rintro ⟨slot, ⟨-, length⟩ | ⟨-, low, -, length⟩⟩ <;> omega
  next admitted =>
    have slot : (byteAt b 0).toNat ≤ 15 := by omega
    split
    next undefined =>
      split
      next two => exact iff_of_true rfl ⟨slot, Or.inl ⟨undefined, two⟩⟩
      next other =>
        refine iff_of_false (by simp) ?_
        rintro ⟨-, ⟨-, two⟩ | ⟨kind, -⟩⟩
        · exact other two
        · simp [undefined] at kind
    next defined =>
      split
      next fields => exact iff_of_true rfl ⟨slot, Or.inr fields⟩
      next outside =>
        refine iff_of_false (by simp) ?_
        rintro ⟨-, ⟨undefined, -⟩ | fields⟩
        · exact defined undefined
        · exact outside fields

theorem decodeWindow_isSome_iff (b : List Byte) : (decodeWindow b).isSome = true ↔ windowEncoded b := by
  unfold decodeWindow windowEncoded
  simp only [List.mem_cons, List.not_mem_nil, or_false]
  split
  next admitted => exact iff_of_true rfl admitted
  next refused => exact iff_of_false (by simp) refused

theorem decodeProgramArgs_isSome_iff (args : List Byte) :
    (decodeProgramArgs args).isSome = true ↔ ∃ m, 1 ≤ m ∧ m ≤ 8 ∧ args.length = 1 + 9 * m
      ∧ (byteAt args 0).toNat + m ≤ 64 ∧ ∀ k, k < m → entryEncoded args (1 + 9 * k) := by
  have shifted (k : Nat) : entryEncoded (args.drop 1) (9 * k) ↔ entryEncoded args (1 + 9 * k) :=
    entryEncoded_iff_of_byteAt fun j _ => by rw [byteAt_drop]; congr 1; omega
  have entries (m : Nat) : ((decodeEntries m (args.drop 1)).map fun es => ((byteAt args 0).toNat, es)).isSome = true
      ↔ (args.drop 1).length = 9 * m ∧ ∀ k < m, entryEncoded args (1 + 9 * k) := by
    rw [Option.isSome_map, decodeEntries_isSome_iff]
    simp only [shifted]
  unfold decodeProgramArgs
  dsimp only
  split
  next fits =>
    rw [entries]
    constructor
    · exact fun ⟨_, all⟩ => ⟨_, fits.1, fits.2.1, fits.2.2.1, fits.2.2.2.2, all⟩
    · rintro ⟨m, -, -, length, -, all⟩
      have count : (args.length - 1) / 9 = m := by omega
      rw [count]
      exact ⟨by simp [length], all⟩
  next unfit =>
    refine iff_of_false (by simp) ?_
    rintro ⟨m, low, high, length, range, -⟩
    omega

theorem decodeLengthArgs_isSome_iff (args : List Byte) :
    (decodeLengthArgs args).isSome = true ↔ ∃ n : Byte, args = [n] ∧ 1 ≤ n.toNat ∧ n.toNat ≤ 64 := by
  unfold decodeLengthArgs
  dsimp only
  constructor
  · intro admitted
    split at admitted
    next fits =>
      obtain ⟨n, rfl⟩ := List.length_eq_one_iff.mp fits.1
      exact ⟨n, rfl, fits.2⟩
    next => simp at admitted
  · rintro ⟨n, rfl, fits⟩
    simp [fits]

theorem decodeInsertArgs_isSome_iff (args : List Byte) :
    (decodeInsertArgs args).isSome = true ↔ ∃ position record, args = position :: record ∧ windowEncoded record := by
  unfold decodeInsertArgs
  constructor
  · intro admitted
    split at admitted
    next length =>
      cases args with
      | nil => simp at length
      | cons position record =>
        exact ⟨position, record, rfl, (decodeWindow_isSome_iff record).mp (by simpa using admitted)⟩
    next => simp at admitted
  · rintro ⟨position, record, rfl, encoded⟩
    rw [if_pos (by simp [encoded.1]), Option.isSome_map]
    exact (decodeWindow_isSome_iff record).mpr encoded

theorem decodeRemoveArgs_isSome_iff (args : List Byte) :
    (decodeRemoveArgs args).isSome = true ↔ ∃ id : Byte, args = [id] ∧ id.toNat ≤ 7 := by
  unfold decodeRemoveArgs
  constructor
  · intro admitted
    split at admitted
    next fits =>
      obtain ⟨id, rfl⟩ := List.length_eq_one_iff.mp fits.1
      exact ⟨id, rfl, fits.2⟩
    next => simp at admitted
  · rintro ⟨id, rfl, fits⟩
    simp [fits]

theorem decodeMoveArgs_isSome_iff (args : List Byte) :
    (decodeMoveArgs args).isSome = true ↔ ∃ id position : Byte, args = [id, position] ∧ id.toNat ≤ 7 := by
  unfold decodeMoveArgs
  constructor
  · intro admitted
    split at admitted
    next fits =>
      obtain ⟨id, position, rfl⟩ := List.length_eq_two.mp fits.1
      exact ⟨id, position, rfl, fits.2⟩
    next => simp at admitted
  · rintro ⟨id, position, rfl, fits⟩
    simp [fits]

/-! ### A staging write (R127) -/

section
variable {α : Type} {decode : List Byte → Option α} {write : α → Bank → Bank ⊕ Status} {x : α}

theorem stagingWrite_outsideEncoding (undecoded : decode c.args = none) :
    stagingWrite decode write c s = (s, Response.plain .badArgument) := by
  simp [stagingWrite, undecoded]

theorem stagingWrite_locked (decoded : decode c.args = some x) (locked : s.cfs.commitPending.isSome = true) :
    stagingWrite decode write c s = (s, Response.plain .stageLocked) := by
  simp [stagingWrite, decoded, locked]

theorem stagingWrite_written {bank : Bank} (decoded : decode c.args = some x) (unlocked : s.cfs.commitPending = none)
    (written : write x s.cfs.staging = .inl bank) :
    stagingWrite decode write c s = ({ s with cfs.staging := bank }, Response.plain .done) := by
  simp [stagingWrite, decoded, unlocked, written]

theorem stagingWrite_checked {status : Status} (decoded : decode c.args = some x)
    (unlocked : s.cfs.commitPending = none) (refused : write x s.cfs.staging = .inr status) :
    stagingWrite decode write c s = (s, Response.plain status) := by
  simp [stagingWrite, decoded, unlocked, refused]

end

/-! ### The rows that write the staging bank alone (R128 to R131) -/

theorem decodeEntries_flatMap_encodeEntry (es : List Entry) (reads : ∀ e ∈ es, decodeEntry (encodeEntry e) = some e) :
    decodeEntries es.length (es.flatMap encodeEntry) = some es := by
  induction es with
  | nil => rfl
  | cons e es ih =>
    have head : (encodeEntry e ++ es.flatMap encodeEntry).take 9 = encodeEntry e := List.take_left' (length_encodeEntry e)
    have tail : (encodeEntry e ++ es.flatMap encodeEntry).drop 9 = es.flatMap encodeEntry :=
      List.drop_left' (length_encodeEntry e)
    rw [List.flatMap_cons, List.length_cons, decodeEntries, head, tail, reads e List.mem_cons_self,
      ih fun e mem => reads e (List.mem_cons_of_mem _ mem)]

theorem decodeProgramArgs_encoded {first : Byte} {es : List Entry}
    (reads : ∀ e ∈ es, decodeEntry (encodeEntry e) = some e) (some : 1 ≤ es.length) (few : es.length ≤ 8)
    (fits : first.toNat + es.length ≤ 64) :
    decodeProgramArgs (first :: es.flatMap encodeEntry) = Option.some (first.toNat, es) := by
  have length : (es.flatMap encodeEntry).length = 9 * es.length := by
    simp [List.length_flatMap, Nat.mul_comm]
  have count : ((first :: es.flatMap encodeEntry).length - 1) / 9 = es.length := by
    rw [List.length_cons, length]
    omega
  unfold decodeProgramArgs
  dsimp only
  rw [count, List.length_cons, length, byteAt_cons_zero, if_pos (by omega), List.drop_succ_cons, List.drop_zero,
    decodeEntries_flatMap_encodeEntry es reads]
  rfl

/-- R129: the entries from the first index on are those carried, in order; the others stay. -/
theorem getElem_setEntries (es : List Entry) (program : Vector Entry 64) (first j : Nat) (inside : j < 64) :
    (setEntries program first es)[j] = if first ≤ j ∧ j < first + es.length then es.getD (j - first) Entry.cleared
      else program[j] := by
  induction es generalizing program first with
  | nil => rw [if_neg (by simp), setEntries]
  | cons e es ih =>
    rw [setEntries, ih, List.length_cons]
    rcases Nat.lt_trichotomy j first with below | rfl | above
    · rw [if_neg (by omega), if_neg (by omega), Vector.getElem_setIfInBounds_ne _ (by omega)]
    · rw [if_neg (by omega), if_pos (by omega), Nat.sub_self, Vector.getElem_setIfInBounds_self]
      rfl
    · rw [Vector.getElem_setIfInBounds_ne _ (by omega), show j - first = j - (first + 1) + 1 by omega]
      simp only [List.getD_cons_succ, show (first ≤ j ∧ j < first + (es.length + 1))
        ↔ (first + 1 ≤ j ∧ j < first + 1 + es.length) by omega]

/-- Settles O42: the four writes decode their arguments and check nothing more. -/
theorem stagingWritesChangeStaging : Obligations.StagingWritesChangeStaging := by
  intro s c session unlocked
  refine ⟨fun r atHead decoded => ?raster, fun first es atHead args reads atLeastOne few fits => ?program,
    fun n atHead args positive small => ?length, fun slot p atHead decoded => ?pattern⟩
  case raster => exact exec_inSession rfl atHead session (by decide) (stagingWrite_written decoded unlocked rfl)
  case program =>
    have decoded : decodeProgramArgs c.args = some (first.toNat, es) := by
      rw [args]
      exact decodeProgramArgs_encoded reads atLeastOne few fits
    have replaced : setEntries s.cfs.staging.program first.toNat es = Vector.ofFn fun j : Fin 64 =>
        if first.toNat ≤ j.val ∧ j.val < first.toNat + es.length then es.getD (j.val - first.toNat) Entry.cleared
        else s.cfs.staging.program[j] := by
      apply Vector.ext
      intro j inside
      rw [getElem_setEntries, Vector.getElem_ofFn]
      rfl
    rw [← replaced]
    exact exec_inSession rfl atHead session (by decide) (stagingWrite_written decoded unlocked rfl)
  case length =>
    have decoded : decodeLengthArgs c.args = some n.toNat := by simp [decodeLengthArgs, args, positive, small]
    exact exec_inSession rfl atHead session (by decide) (stagingWrite_written decoded unlocked rfl)
  case pattern =>
    have replaced : s.cfs.staging.patterns.setIfInBounds slot p
        = Vector.ofFn fun j : Fin 16 => if j.val = slot then p else s.cfs.staging.patterns[j] := by
      apply Vector.ext
      intro j inside
      rw [Vector.getElem_setIfInBounds, Vector.getElem_ofFn]
      simp only [eq_comm (a := slot)]
      rfl
    rw [← replaced]
    exact exec_inSession rfl atHead session (by decide) (stagingWrite_written decoded unlocked rfl)

/-! ### The window list (R132, R133) -/

theorem decodeInsertArgs_cons {position : Byte} {record : List Byte} {w : Window} (args : c.args = position :: record)
    (decoded : decodeWindow record = some w) : decodeInsertArgs c.args = some (position.toNat, w) := by
  have encoded : windowEncoded record := (decodeWindow_isSome_iff record).mp (by simp [decoded])
  simp [decodeInsertArgs, args, encoded.1, decoded]

theorem decodeRemoveArgs_single {id : Byte} (args : c.args = [id]) (small : id.toNat ≤ 7) :
    decodeRemoveArgs c.args = some id.toNat := by
  simp [decodeRemoveArgs, args, small]

theorem decodeMoveArgs_pair {id position : Byte} (args : c.args = [id, position]) (small : id.toNat ≤ 7) :
    decodeMoveArgs c.args = some (id.toNat, position.toNat) := by
  simp [decodeMoveArgs, args, small]

/-- The id of a decoded record is its byte 0. -/
theorem id_of_decodeWindow {record : List Byte} {w : Window} (decoded : decodeWindow record = some w) :
    w.id = (byteAt record 0).toNat := by
  unfold decodeWindow at decoded
  split at decoded
  next => rw [← Option.some.inj decoded]
  next => simp at decoded

/-- Settles O43: the arguments decode, and each check of R132 and R133 passes. -/
theorem windowListOperations : Obligations.WindowListOperations := by
  intro s c session unlocked
  refine ⟨fun position record w atHead args decoded room fresh inRange => ?insert,
    fun id atHead args small present => ?remove, fun id position w others atHead args small found inRange rest => ?move⟩
  case insert =>
    refine exec_inSession rfl atHead session (by decide)
      (stagingWrite_written (decodeInsertArgs_cons args decoded) unlocked ?_)
    have noneSuch : ¬(s.cfs.staging.windows.any (·.id == w.id)) = true := by simpa using fresh
    exact (if_neg (Nat.not_le.mpr room)).trans ((if_neg noneSuch).trans (if_neg (Nat.not_lt.mpr inRange)))
  case remove =>
    refine exec_inSession rfl atHead session (by decide)
      (stagingWrite_written (decodeRemoveArgs_single args small) unlocked ?_)
    have listed : (s.cfs.staging.windows.any (·.id == id.toNat)) = true := by simpa using present
    exact if_pos listed
  case move =>
    subst rest
    refine exec_inSession rfl atHead session (by decide)
      (stagingWrite_written (decodeMoveArgs_pair args small) unlocked ?_)
    show (match s.cfs.staging.windows.find? (·.id == id.toNat) with | none => _ | some w => _) = _
    rw [found]
    exact if_neg (Nat.not_le.mpr inRange)

/-! ### Refusals (R127 to R133) -/

/-- What every staging row is refused with, by what its decoder admits. -/
theorem exec_stagingWrite_refused {α : Type} {accepts : Byte → Bool} {decode : List Byte → Option α}
    {write : α → Bank → Bank ⊕ Status} {inEncoding : Prop}
    (row : exec i s = .next (take accepts false (stagingWrite decode write) s)) (accepted : accepts code = true)
    (admits : (decode c.args).isSome = true ↔ inEncoding) (atHead : AtHead s c code) (session : InSession s c) :
    (¬inEncoding →
      exec i s = .next ((popped s).answer c { status := .badArgument, detail := 0, data := [] }).settle)
    ∧ (inEncoding → s.cfs.commitPending.isSome = true →
      exec i s = .next ((popped s).answer c { status := .stageLocked, detail := 0, data := [] }).settle) := by
  refine ⟨fun outside => ?outside, fun inside locked => ?locked⟩
  case outside =>
    have undecoded : decode c.args = none := by
      rw [← Option.not_isSome_iff_eq_none, admits]
      exact outside
    exact exec_inSession row atHead session accepted (stagingWrite_outsideEncoding undecoded)
  case locked =>
    obtain ⟨x, decoded⟩ := Option.isSome_iff_exists.mp (admits.mpr inside)
    exact exec_inSession row atHead session accepted (stagingWrite_locked decoded locked)

theorem find?_id_eq_none {windows : List Window} {id : Nat} (absent : ∀ x ∈ windows, x.id ≠ id) :
    windows.find? (·.id == id) = none := by
  simpa using absent

/-- Settles O44: the encoding and the lock of the seven rows by one lemma, then the checks against the list. -/
theorem stagingRefusals : Obligations.StagingRefusals := by
  rintro s _ c session rfl
  refine ⟨fun i code inEncoding row atHead => ?encodings, fun position record atHead args encoded unlocked => ?insert,
    fun id atHead args small unlocked absent => ?remove, fun id position atHead args small unlocked wrong => ?move⟩
  case encodings =>
    simp only [List.mem_cons, List.not_mem_nil, or_false, Prod.mk.injEq] at row
    rcases row with ⟨rfl, rfl, rfl⟩ | ⟨rfl, rfl, rfl⟩ | ⟨rfl, rfl, rfl⟩ | ⟨rfl, rfl, rfl⟩ | ⟨rfl, rfl, rfl⟩
      | ⟨rfl, rfl, rfl⟩ | ⟨rfl, rfl, rfl⟩
    · exact exec_stagingWrite_refused rfl (by decide) (decodeRaster_isSome_iff _) atHead session
    · exact exec_stagingWrite_refused rfl (by decide) (decodeProgramArgs_isSome_iff _) atHead session
    · exact exec_stagingWrite_refused rfl (by decide) (decodeLengthArgs_isSome_iff _) atHead session
    · exact exec_stagingWrite_refused rfl (by decide) (decodePattern_isSome_iff _) atHead session
    · exact exec_stagingWrite_refused rfl (by decide) (decodeInsertArgs_isSome_iff _) atHead session
    · exact exec_stagingWrite_refused rfl (by decide) (decodeRemoveArgs_isSome_iff _) atHead session
    · exact exec_stagingWrite_refused rfl (by decide) (decodeMoveArgs_isSome_iff _) atHead session
  case insert =>
    obtain ⟨w, decoded⟩ := Option.isSome_iff_exists.mp ((decodeWindow_isSome_iff record).mpr encoded)
    have decodedArgs := decodeInsertArgs_cons args decoded
    refine ⟨fun full => ?full, fun room wrong => ?wrong⟩
    case full =>
      exact exec_inSession rfl atHead session (by decide) (stagingWrite_checked decodedArgs unlocked (if_pos full))
    case wrong =>
      refine exec_inSession rfl atHead session (by decide) (stagingWrite_checked decodedArgs unlocked ?_)
      show (if 8 ≤ s.cfs.staging.windows.length then _ else _) = _
      rw [if_neg (by omega)]
      rw [← id_of_decodeWindow decoded] at wrong
      by_cases listed : (s.cfs.staging.windows.any (·.id == w.id)) = true
      case pos => exact if_pos listed
      case neg =>
        have beyond : s.cfs.staging.windows.length < position.toNat :=
          wrong.resolve_left fun present => listed (by simpa using present)
        exact (if_neg listed).trans (if_pos beyond)
  case remove =>
    refine exec_inSession rfl atHead session (by decide)
      (stagingWrite_checked (decodeRemoveArgs_single args small) unlocked ?_)
    have noneSuch : ¬(s.cfs.staging.windows.any (·.id == id.toNat)) = true := by simpa using absent
    exact if_neg noneSuch
  case move =>
    refine exec_inSession rfl atHead session (by decide)
      (stagingWrite_checked (decodeMoveArgs_pair args small) unlocked ?_)
    show (match s.cfs.staging.windows.find? (·.id == id.toNat) with | none => _ | some w => _) = _
    rcases wrong with absent | beyond
    · rw [find?_id_eq_none absent]
    · cases s.cfs.staging.windows.find? (·.id == id.toNat) with
      | none => rfl
      | some w => exact if_pos beyond

end Sys2Proof.Machine
end

section
/-! SUPPORT. COMMIT, DISCARD and READ_CONFIG (R134, R137, R140), the overlay writes (R119, R122), and the arguments
outside their encoding of every other command (R146, step 3). -/

namespace Sys2Proof.Machine

variable {s t : State} {c : Command} {code : Byte} {i : Instr}

/-! ### COMMIT (R137) -/

section
variable (noArgs : c.args = [])
include noArgs

theorem commitBody_locked (pending : s.cfs.commitPending.isSome = true) :
    commitBody c s = (s, Response.plain .stageLocked) := by
  simp [commitBody, noArgs, pending]

theorem commitBody_invalid {f : Failure} (unlocked : s.cfs.commitPending = none)
    (invalid : s.cfs.staging.validate = some f) :
    commitBody c s = (s, { status := .invalidStage, detail := byteOf f.code, data := f.index.toList.map byteOf }) := by
  simp [commitBody, noArgs, unlocked, invalid]

theorem commitBody_now (unlocked : s.cfs.commitPending = none) (valid : s.cfs.staging.validate = none)
    (noFrame : s.otg.frameInProgress = false) :
    commitBody c s = ({ s with cfs := s.cfs.applyCommit }, Response.plain .done) := by
  simp [commitBody, noArgs, unlocked, valid, noFrame]

theorem commitBody_later (unlocked : s.cfs.commitPending = none) (valid : s.cfs.staging.validate = none)
    (inFrame : s.otg.frameInProgress = true) :
    commitBody c s = ({ s with cfs.commitPending := some c.tag }, Response.plain .accepted) := by
  simp [commitBody, noArgs, unlocked, valid, inFrame]

end

/-- Outside ACTIVE and a mid-frame hold no output frame is in progress. -/
theorem Otg.frameInProgress_eq_false {o : Otg}
    (outside : o.output = .off ∨ o.output = .waitFrame ∨ (o.output = .held ∧ o.holdPosition = .boundary)) :
    o.frameInProgress = false := by
  rcases outside with off | waiting | ⟨held, boundary⟩
  · simp [Otg.frameInProgress, off]
  · simp [Otg.frameInProgress, waiting]
  · simp [Otg.frameInProgress, held, boundary]

/-- Settles O46: the four outcomes of R137 in their order. -/
theorem commitOutcomes : Obligations.CommitOutcomes := by
  intro s c atHead session noArgs
  refine ⟨fun pending => ?locked, fun f unlocked invalid => ?invalid, fun unlocked valid outside => ?now,
    fun unlocked valid inside => ?later⟩
  case locked => exact exec_inSession rfl atHead session (by decide) (commitBody_locked noArgs pending)
  case invalid => exact exec_inSession rfl atHead session (by decide) (commitBody_invalid noArgs unlocked invalid)
  case now =>
    exact exec_inSession rfl atHead session (by decide)
      (commitBody_now noArgs unlocked valid (Otg.frameInProgress_eq_false outside))
  case later =>
    exact exec_inSession rfl atHead session (by decide)
      (commitBody_later noArgs unlocked valid (s.otg.frameInProgress_iff.mpr inside))

/-! ### DISCARD and READ_CONFIG (R134, R140) -/

theorem discardBody_discard (noArgs : c.args = []) :
    discardBody c s = ({ s with cfs := { s.cfs with commitPending := none }.restage },
      { status := .done, detail := byteOf (bit s.cfs.commitPending.isSome), data := [] }) := by
  simp [discardBody, noArgs]

theorem toNat_eq_iff {x : Byte} {n : Nat} (small : n < 256) : x.toNat = n ↔ x = BitVec.ofNat 8 n := by
  constructor
  · rintro rfl
    simp
  · rintro rfl
    simpa using small

/-- The items and selections that READ_CONFIG admits are those of Table 8-4. -/
theorem readItem_eq_some_iff (item : Byte) (selection : List Byte) (data : Bank → List Byte) :
    readItem item selection = some data ↔ readsItem item selection data := by
  unfold readItem readsItem
  split
  next number =>
    have zero : item = 0 := (toNat_eq_iff (by decide)).mp number
    simpa [zero] using eq_comm
  next number =>
    have one : item = 1 := (toNat_eq_iff (by decide)).mp number
    simpa [one] using eq_comm
  next first count number =>
    have two : item = 2 := (toNat_eq_iff (by decide)).mp number
    split
    next fits =>
      obtain ⟨-, low, high, range⟩ := fits
      simpa [two, low, high, range] using eq_comm
    next unfit =>
      have outside : ¬(1 ≤ count.toNat ∧ count.toNat ≤ 28 ∧ first.toNat + count.toNat ≤ 64) := by omega
      simp only [two, reduceCtorEq, false_iff]
      rintro (⟨number, -⟩ | ⟨number, -⟩ | ⟨-, f, n, same, low, high, range, -⟩ | ⟨number, -⟩ | ⟨number, -⟩)
      case inr.inr.inl =>
        cases same
        exact outside ⟨low, high, range⟩
      all_goals exact absurd number (by decide)
  next slot number =>
    have three : item = 3 := (toNat_eq_iff (by decide)).mp number
    split
    next fits => simpa [three, fits] using eq_comm
    next unfit => simp [three, unfit]
  next number =>
    have four : item = 4 := (toNat_eq_iff (by decide)).mp number
    simpa [four] using eq_comm
  next none other0 other1 other2 other3 other4 =>
    simp only [reduceCtorEq, false_iff]
    rintro (⟨rfl, rfl, -⟩ | ⟨rfl, rfl, -⟩ | ⟨rfl, first, count, rfl, -⟩ | ⟨rfl, slot, rfl, -⟩ | ⟨rfl, rfl, -⟩)
    · exact other0 rfl rfl
    · exact other1 rfl rfl
    · exact other2 first count rfl rfl
    · exact other3 slot rfl rfl
    · exact other4 rfl rfl

theorem decodeReadArgs_of_readsItem {bank item : Byte} {selection : List Byte} {data : Bank → List Byte}
    (args : c.args = bank :: item :: selection) (named : bank.toNat ≤ 1) (reads : readsItem item selection data) :
    decodeReadArgs c.args = some (decide (bank = 1), data) := by
  rw [args, decodeReadArgs, if_pos named, (readItem_eq_some_iff item selection data).mpr reads]
  rfl

/-- Arguments that are no reading of Table 8-4 do not decode. -/
theorem decodeReadArgs_eq_none (noReading : ∀ bank item selection data, bank = 0 ∨ bank = 1 →
    c.args = bank :: item :: selection → ¬readsItem item selection data) : decodeReadArgs c.args = none := by
  unfold decodeReadArgs
  split
  next bank item selection args =>
    split
    next named =>
      have flag : bank = 0 ∨ bank = 1 := by
        have zeroOrOne : bank.toNat = 0 ∨ bank.toNat = 1 := by omega
        rwa [toNat_eq_iff (by decide), toNat_eq_iff (by decide)] at zeroOrOne
      cases reading : readItem item selection with
      | none => rfl
      | some data => exact absurd ((readItem_eq_some_iff ..).mp reading) (noReading bank item selection data flag args)
    next => rfl
  next => rfl

section
variable {data : Bank → List Byte}

theorem readConfigBody_staging (decoded : decodeReadArgs c.args = some (true, data)) :
    readConfigBody c s = (s, { status := .done, detail := 0, data := data s.cfs.staging }) := by
  simp [readConfigBody, decoded]

theorem readConfigBody_active {b : Bank} (decoded : decodeReadArgs c.args = some (false, data))
    (active : s.cfs.active = some b) :
    readConfigBody c s = (s, { status := .done, detail := 0, data := data b }) := by
  simp [readConfigBody, decoded, active]

theorem readConfigBody_empty (decoded : decodeReadArgs c.args = some (false, data)) (empty : s.cfs.active = none) :
    readConfigBody c s = (s, Response.plain .wrongState) := by
  simp [readConfigBody, decoded, empty]

theorem readConfigBody_badArgument (undecoded : decodeReadArgs c.args = none) :
    readConfigBody c s = (s, Response.plain .badArgument) := by
  simp [readConfigBody, undecoded]

end

/-- Settles O48. -/
theorem discardAndReadConfig : Obligations.DiscardAndReadConfig := by
  intro s c session
  refine ⟨fun atHead noArgs => ?discard, fun atHead => ⟨fun item selection data args reads => ?staging,
    fun item selection data b args reads active => ?active, fun item selection data args reads empty => ?empty,
    fun noReading => ?badArgument⟩⟩
  case discard =>
    rw [exec_inSession rfl atHead session (by decide) (discardBody_discard noArgs)]
    have pending : (popped s).cfs.commitPending = s.cfs.commitPending := rfl
    rw [pending]
    cases s.cfs.commitPending <;> rfl
  case staging =>
    exact exec_inSession rfl atHead session (by decide)
      (readConfigBody_staging (decodeReadArgs_of_readsItem args (by decide) reads))
  case active =>
    exact exec_inSession rfl atHead session (by decide)
      (readConfigBody_active (decodeReadArgs_of_readsItem args (by decide) reads) active)
  case empty =>
    exact exec_inSession rfl atHead session (by decide)
      (readConfigBody_empty (decodeReadArgs_of_readsItem args (by decide) reads) empty)
  case badArgument =>
    exact exec_inSession rfl atHead session (by decide) (readConfigBody_badArgument (decodeReadArgs_eq_none noReading))

/-! ### WRITE_GLYPH (R119) -/

theorem glyphByte_of_read? {a : Nat} {v : Byte} (read : Cells.read? s.ovc.glyphs a = some v) : s.glyphByte a = v := by
  simp [State.glyphByte, read]

theorem glyphByte_of_same {a : Nat} (cells : Cells.read? t.ovc.glyphs a = Cells.read? s.ovc.glyphs a)
    (power : t.powerOns = s.powerOns) : t.glyphByte a = s.glyphByte a := by
  rw [State.glyphByte, State.glyphByte, cells, power]

section
variable {hi lo : Byte} {data : List Byte} (args : c.args = hi :: lo :: data)
include args

theorem writeGlyphBody_written (some : data ≠ []) (fits : hi.toNat * 256 + lo.toNat + data.length ≤ 16384) :
    writeGlyphBody c s = ({ s with
      ovc.glyphs := Cells.writeFrom s.ovc.glyphs (hi.toNat * 256 + lo.toNat) data }, Response.plain .done) := by
  have positive := List.length_pos_iff.mpr some
  have address : natAt2 c.args 0 = hi.toNat * 256 + lo.toNat := by rw [args]; rfl
  have carried : c.args.drop 2 = data := by rw [args]; rfl
  have length : c.args.length = data.length + 2 := by rw [args]; rfl
  rw [← address, ← carried] at fits ⊢
  exact if_pos ⟨by omega, by rw [carried] at fits; omega, fits⟩

theorem writeGlyphBody_pastEnd (past : 16384 < hi.toNat * 256 + lo.toNat + data.length) :
    writeGlyphBody c s = (s, Response.plain .badArgument) := by
  have address : natAt2 c.args 0 = hi.toNat * 256 + lo.toNat := by rw [args]; rfl
  have carried : c.args.drop 2 = data := by rw [args]; rfl
  rw [← address, ← carried] at past
  exact if_neg fun ⟨_, _, fits⟩ => Nat.not_le.mpr past fits

end

/-- Settles O49: the range check, then what the written store reads (R118). -/
theorem writeGlyphWritesStore : Obligations.WriteGlyphWritesStore := by
  intro s c hi lo data atHead session args some
  refine ⟨fun fits t written => ⟨?writes, fun i inside => ?inside, fun a outside => ?outside⟩, fun past => ?pastEnd⟩
  case writes =>
    rw [written]
    exact exec_inSession rfl atHead session (by decide) (writeGlyphBody_written args some fits)
  case pastEnd => exact exec_inSession rfl atHead session (by decide) (writeGlyphBody_pastEnd args past)
  case inside =>
    refine glyphByte_of_read? ?_
    rw [written, State.settle_ovc, answer_ovc]
    exact Cells.read?_writeFrom_inside _ _ _ _ inside
  case outside =>
    refine glyphByte_of_same ?_ (by rw [written, State.settle_powerOns, answer_powerOns]; rfl)
    rw [written, State.settle_ovc, answer_ovc]
    exact Cells.read?_writeFrom_outside _ _ _ _ outside

/-! ### WRITE_PALETTE (R121, R122) -/

theorem paletteColour_of_read? {k : Nat} {v : Pixel} (read : Cells.read? s.ovc.palette k = some v) :
    s.paletteColour k = v := by
  simp [State.paletteColour, read]

theorem paletteColour_of_same {k : Nat} (cells : Cells.read? t.ovc.palette k = Cells.read? s.ovc.palette k)
    (power : t.powerOns = s.powerOns) : t.paletteColour k = s.paletteColour k := by
  rw [State.paletteColour, State.paletteColour, cells, power]

/-- The colours of a byte string stand in it three bytes each (Table 1-1). -/
theorem coloursAt_pixelsOf (b : List Byte) : coloursAt b 0 (pixelsOf b) := by
  induction b using pixelsOf.induct with
  | case1 r g b rest ih =>
    intro k inside
    cases k with
    | zero => exact ⟨rfl, red_pixelOf .., green_pixelOf .., blue_pixelOf ..⟩
    | succ k =>
      have later := ih k (by simpa [pixelsOf] using inside)
      have shift (j : Nat) : byteAt (r :: g :: b :: rest) (0 + 3 * (k + 1) + j) = byteAt rest (0 + 3 * k + j) := by
        rw [show 0 + 3 * (k + 1) + j = (0 + 3 * k + j) + 1 + 1 + 1 by omega]
        rfl
      have first : byteAt (r :: g :: b :: rest) (0 + 3 * (k + 1)) = byteAt rest (0 + 3 * k) := shift 0
      rw [first, shift 1, shift 2]
      exact later
  | case2 bytes short =>
    intro k inside
    simp [pixelsOf] at inside

theorem decodePaletteArgs_eq {first : Byte} {data : List Byte} {n : Nat} (args : c.args = first :: data)
    (length : data.length = 3 * n) (some : 1 ≤ n) (few : n ≤ 16) (fits : first.toNat + n ≤ 256) :
    decodePaletteArgs c.args = Option.some { first := first.toNat, colours := pixelsOf data } := by
  have count : ((first :: data).length - 1) / 3 = n := by
    rw [List.length_cons, length]
    omega
  rw [args, decodePaletteArgs, count, List.length_cons, length]
  exact if_pos ⟨some, few, by omega, fits⟩

section
variable {item : PaletteItem} (decoded : decodePaletteArgs c.args = some item)
include decoded

theorem writePaletteBody_pending (active : s.otg.output = .active) (room : s.ovc.palettePending.length < 4) :
    writePaletteBody c s = ({ s with ovc.palettePending := s.ovc.palettePending ++ [item] },
      Response.plain .accepted) := by
  simp [writePaletteBody, Config.palettePendingSize, decoded, active, room]

theorem writePaletteBody_full (active : s.otg.output = .active) (full : 4 ≤ s.ovc.palettePending.length) :
    writePaletteBody c s = (s, Response.plain .full) := by
  simp [writePaletteBody, Config.palettePendingSize, decoded, active, Nat.not_lt.mpr full]

theorem writePaletteBody_now (inactive : s.otg.output ≠ .active) :
    writePaletteBody c s = ({ s with ovc.palette := applyItem s.ovc.palette item }, Response.plain .done) := by
  simp [writePaletteBody, decoded, inactive]

end

/-- Settles O50: the item carried, the three outcomes of Table 7-4, and what the written palette reads. -/
theorem writePaletteOutcomes : Obligations.WritePaletteOutcomes := by
  intro s c first data n atHead session args length some few fits
  have decoded := decodePaletteArgs_eq args length some few fits
  have count : (pixelsOf data).length = n := by
    rw [length_pixelsOf, length]
    omega
  refine ⟨count, coloursAt_pixelsOf data, fun active room => ?pending, fun active full => ?full,
    fun inactive t written => ⟨?writes, fun i inside => ?inside, fun k outside => ?outside⟩⟩
  case pending =>
    exact exec_inSession rfl atHead session (by decide) (writePaletteBody_pending decoded active room)
  case full => exact exec_inSession rfl atHead session (by decide) (writePaletteBody_full decoded active full)
  case writes =>
    rw [written]
    exact exec_inSession rfl atHead session (by decide) (writePaletteBody_now decoded inactive)
  case inside =>
    refine paletteColour_of_read? ?_
    rw [written, State.settle_ovc, answer_ovc]
    exact Cells.read?_writeFrom_inside _ _ _ _ inside
  case outside =>
    refine paletteColour_of_same ?_ (by rw [written, State.settle_powerOns, answer_powerOns]; rfl)
    rw [written, State.settle_ovc, answer_ovc]
    exact Cells.read?_writeFrom_outside _ _ _ _ (by rwa [count])

/-! ### Arguments outside their encoding (R146, step 3) -/

/-- Three bytes that begin with 0 or 1 are the encoding of OPEN_SESSION. -/
theorem openSessionBody_badArgument
    (other : ∀ takeover hi lo, takeover = 0 ∨ takeover = 1 → c.args ≠ [takeover, hi, lo]) :
    openSessionBody c s = (s, Response.plain .badArgument) := by
  refine if_pos fun ⟨three, flag⟩ => ?_
  obtain ⟨takeover, hi, lo, args⟩ := List.length_eq_three.mp three
  have small : takeover.toNat = 0 ∨ takeover.toNat = 1 := by
    rw [args, byteAt_cons_zero] at flag
    omega
  rw [toNat_eq_iff (by decide), toNat_eq_iff (by decide)] at small
  exact other takeover hi lo small args

theorem setNoticesBody_badArgument (other : ∀ hi lo, c.args ≠ [hi, lo]) :
    setNoticesBody c s = (s, Response.plain .badArgument) := by
  refine if_neg fun ⟨two, _⟩ => ?_
  obtain ⟨hi, lo, args⟩ := List.length_eq_two.mp two
  exact other hi lo args

theorem holdOutputBody_badArgument (notLine : c.args ≠ [0]) (notFrame : c.args ≠ [1]) :
    holdOutputBody c s = (s, Response.plain .badArgument) := by
  have single (n : Byte) : c.args.length = 1 ∧ byteAt c.args 0 = n → c.args = [n] := fun ⟨one, byte⟩ => by
    obtain ⟨m, args⟩ := List.length_eq_one_iff.mp one
    rw [args, byteAt_cons_zero] at byte
    rw [args, byte]
  have undecoded : decodeHoldArgs c.args = none :=
    (if_neg fun line => notLine (single 0 line)).trans (if_neg fun frame => notFrame (single 1 frame))
  simp [holdOutputBody, undecoded]

theorem writeGlyphBody_short (short : c.args.length < 3) :
    writeGlyphBody c s = (s, Response.plain .badArgument) :=
  if_neg fun ⟨three, _⟩ => by omega

theorem writePaletteBody_badArgument
    (outside : ∀ n, 1 ≤ n → n ≤ 16 → c.args.length = 1 + 3 * n → 256 < (byteAt c.args 0).toNat + n) :
    writePaletteBody c s = (s, Response.plain .badArgument) := by
  have undecoded : decodePaletteArgs c.args = none := by
    exact if_neg fun ⟨positive, few, length, fits⟩ => Nat.not_le.mpr (outside _ positive few length) fits
  simp [writePaletteBody, undecoded]

/-- Settles O45: each command's own rule refuses, and the state is that of the take. -/
theorem badArgumentRefusals : Obligations.BadArgumentRefusals := by
  rintro s _ c rfl
  refine ⟨fun reached => ⟨fun atHead args => ?readStatus, fun atHead other => ?openSession⟩, fun session =>
    ⟨fun i code row atHead args => ?noArguments, fun atHead other => ?setNotices,
      fun atHead notLine notFrame => ?holdOutput, fun atHead noReading => ?readConfig, fun atHead short => ?writeGlyph,
      fun atHead outside => ?writePalette⟩⟩
  case readStatus =>
    exact exec_reaching rfl atHead reached (by decide) (if_pos args : readStatusBody c (popped s) = _)
  case openSession => exact exec_reaching rfl atHead reached (by decide) (openSessionBody_badArgument other)
  case noArguments =>
    simp only [List.mem_cons, List.not_mem_nil, or_false, Prod.mk.injEq] at row
    rcases row with ⟨rfl, rfl⟩ | ⟨rfl, rfl⟩ | ⟨rfl, rfl⟩ | ⟨rfl, rfl⟩ | ⟨rfl, rfl⟩ | ⟨rfl, rfl⟩ | ⟨rfl, rfl⟩
    · exact exec_inSession rfl atHead session (by decide) (if_pos args : closeSessionBody c (popped s) = _)
    · exact exec_inSession rfl atHead session (by decide) (if_pos args : deviceResetBody c (popped s) = _)
    · exact exec_inSession rfl atHead session (by decide) (if_pos args : commitBody c (popped s) = _)
    · exact exec_inSession rfl atHead session (by decide) (if_pos args : discardBody c (popped s) = _)
    · exact exec_inSession rfl atHead session (by decide) (if_pos args : startOutputBody c (popped s) = _)
    · exact exec_inSession rfl atHead session (by decide) (if_pos args : stopOutputBody c (popped s) = _)
    · exact exec_inSession rfl atHead session (by decide) (if_pos args : resumeOutputBody c (popped s) = _)
  case setNotices => exact exec_inSession rfl atHead session (by decide) (setNoticesBody_badArgument other)
  case holdOutput => exact exec_inSession rfl atHead session (by decide) (holdOutputBody_badArgument notLine notFrame)
  case readConfig =>
    exact exec_inSession rfl atHead session (by decide) (readConfigBody_badArgument (decodeReadArgs_eq_none noReading))
  case writeGlyph => exact exec_inSession rfl atHead session (by decide) (writeGlyphBody_short short)
  case writePalette => exact exec_inSession rfl atHead session (by decide) (writePaletteBody_badArgument outside)

end Sys2Proof.Machine
end

section
/-! SUPPORT. The part-wide resets (R157, R158), the notices (R161, R162), the arbiter (R163) and the messages on the return
lane (R159). -/

namespace Sys2Proof.Machine

variable {s : State}

/-- Settles O1. -/
theorem stepRunsFrontCommand : Obligations.StepRunsFrontCommand := fun _ _ _ => rfl

/-! ### Power-on and pin reset (R158, R164) -/

theorem reset_pins (p : Nat) (h : Half) : State.reset.pins p h = Pins.low := rfl

theorem exec_powerOnReset_running (running : s.resetHeld = false) :
    exec .powerOnReset s = .next { State.reset with
      powerOns := s.powerOns + 1, choices := s.choices, pending := s.pending } := by
  have completes : powerOnReset s = s.powerOnValues.resetDone.settle := if_neg (by simp [running])
  have values : s.powerOnValues = { State.cleared with
      powerOns := s.powerOns + 1, choices := s.choices, pending := s.pending } := by
    rw [State.powerOnValues, State.pinValues, running]
    rfl
  show Host.Outcome.next (powerOnReset s) = _
  rw [completes, values]
  rfl

theorem exec_powerOnReset_held (held : s.resetHeld = true) :
    exec .powerOnReset s = .next { State.cleared with
      resetHeld := true, powerOns := s.powerOns + 1, choices := s.choices, pending := s.pending } := by
  have stays : powerOnReset s = s.powerOnValues := if_pos held
  show Host.Outcome.next (powerOnReset s) = _
  rw [stays, State.powerOnValues, State.pinValues, held]
  rfl

/-- Settles O3: the reset values are those written out; the row computes them from any state. -/
theorem powerOnResetGivesResetState : Obligations.PowerOnResetGivesResetState :=
  ⟨rfl, rfl, rfl, rfl, rfl, rfl, rfl, rfl, rfl, rfl, rfl, rfl, rfl, Ctb.get_zero, reset_pins,
    fun _ running => exec_powerOnReset_running running, fun _ held => exec_powerOnReset_held held⟩

/-- The release of RESET_N completes the reset and raises RESET_DONE (R158, R164). -/
theorem exec_pinResetRelease_held (held : s.resetHeld = true) : exec .pinResetRelease s
    = .next (State.raise { s with resetHeld := false, mge.resetCause := .pin } .resetDone 1).settle :=
  congrArg Host.Outcome.next (if_pos held)

/-- Settles O4. -/
theorem pinResetHoldsThenCompletes : Obligations.PinResetHoldsThenCompletes :=
  ⟨fun s => ⟨pinReset s, rfl, rfl, fun _ _ => rfl, rfl, exec_pinResetRelease_held rfl⟩,
    fun _ held => exec_pinResetRelease_held held⟩

/-! ### Raising a notice (R161, R162) -/

/-- The number of a kind is the one its row of Table 10-3 gives. -/
theorem eq_number_of_mem_noticeKinds {k : NoticeKind} {number : Nat} (row : (k, number) ∈ noticeKinds) :
    number = k.number := by
  have distinct : ∀ pair ∈ noticeKinds, pair.2 = pair.1.number := by decide
  exact distinct _ row

/-- R161: RESET_DONE has no bit in the mask. -/
theorem masked_eq_false_iff (mask : Word16) (k : NoticeKind) :
    masked mask k = false ↔ mask.getLsbD k.number = false ∨ k = .resetDone := by
  cases k <;> simp [masked]

/-- The largest value of the lost-notice count is 255. -/
theorem satInc_byte (x : Byte) : satInc x = if x = 255 then 255 else x + 1 := by
  by_cases top : x = 255
  case pos =>
    subst top
    rfl
  case neg =>
    rw [if_neg top]
    exact if_neg top

/-- Settles O53: the three outcomes of a raise, by the mask and the room in the queue. -/
theorem raisingANotice : Obligations.RaisingANotice := by
  intro s k number d row
  rw [eq_number_of_mem_noticeKinds row]
  refine ⟨fun bit other => ?masked, fun bit room => ?joins, fun bit full => ?lost, rfl, fun b => ?detail⟩
  case masked =>
    have kept : masked s.rlt.mask k = true := by
      rw [← Bool.not_eq_false, masked_eq_false_iff]
      simp [bit, other]
    rw [State.raise, Rlt.raise, if_pos kept]
  case joins =>
    have open' := (masked_eq_false_iff s.rlt.mask k).mpr bit
    rw [State.raise, Rlt.raise, if_neg (by simp [open']), Rlt.offer, Config.noticeQueueSize, if_pos room]
  case lost =>
    have open' := (masked_eq_false_iff s.rlt.mask k).mpr bit
    rw [State.raise, Rlt.raise, if_neg (by simp [open']), Rlt.offer, Config.noticeQueueSize,
      if_neg (Nat.not_lt.mpr full), satInc_byte]
  case detail =>
    rw [detailOf, BitVec.toNat_setWidth]
    omega

/-! ### The arbiter (R163, R164) -/

section
variable {r : Rlt}

theorem Rlt.arbitrate_empty (noNotice : r.notices = []) (noReply : r.replies = []) : r.arbitrate = r := by
  simp [Rlt.arbitrate, noNotice, noReply]

theorem Rlt.arbitrate_notice {n : Notice} {rest : List Notice} (notices : r.notices = n :: rest)
    (first : r.replies = [] ∨ r.consecutive = 4 ∨ n.kind = .resetDone) :
    r.arbitrate = { r with notices := rest, lost := 0, consecutive := 0, lane := .busy (.notice n r.lost) 0 } := by
  have sends : r.arbitrate = r.sendNotice := by
    cases replies : r.replies with
    | nil => simp [Rlt.arbitrate, notices, replies]
    | cons x xs =>
      have first : r.consecutive = 4 ∨ r.resetDoneWaits = true := by
        simpa [replies, Rlt.resetDoneWaits, notices] using first
      simp [Rlt.arbitrate, notices, replies, first]
  rw [sends, Rlt.sendNotice_cons r n rest notices]

theorem Rlt.arbitrate_reply {x : Reply} {rest : List Reply} (replies : r.replies = x :: rest)
    (first : r.notices = [] ∨ (r.consecutive < 4 ∧ ∀ n ∈ r.notices.head?, n.kind ≠ .resetDone)) :
    r.arbitrate = { r with
      replies := rest, consecutive := min (r.consecutive + 1) 4, lane := .busy (.reply x) 0 } := by
  have sends : r.arbitrate = r.sendReply := by
    cases notices : r.notices with
    | nil => simp [Rlt.arbitrate, notices, replies]
    | cons n ns =>
      have second : ¬(r.consecutive = 4 ∨ r.resetDoneWaits = true) := by
        rcases first with none | ⟨few, other⟩
        · simp [notices] at none
        · simp only [notices, List.head?_cons, Option.mem_def, Option.some.injEq, forall_eq'] at other
          simp [Rlt.resetDoneWaits, notices, other, Nat.ne_of_lt few]
      simp [Rlt.arbitrate, notices, replies, second]
  rw [sends, Rlt.sendReply_cons r x rest replies]

end

/-- The lane falls free of a message other than the awaited reply of a device reset (R157, R163). -/
theorem exec_laneFree_other {m : Message} {sent : Nat} (running : s.resetHeld = false) (busy : s.rlt.lane = .busy m sent)
    (other : s.mge.resetPending = true → ∀ r, m = .reply r → ¬(r.code = 0x06 ∧ r.status = .done)) :
    exec .laneFree s = .next (State.settle { s with rlt := { s.rlt with lane := .idle }.arbitrate }) := by
  have notAwaited : s.resetReplyOnLane = false := by
    cases pending : s.mge.resetPending with
    | false => simp [State.resetReplyOnLane, pending]
    | true =>
      cases m with
      | notice n lost => simp [State.resetReplyOnLane, busy]
      | reply r => simpa [State.resetReplyOnLane, pending, busy, Reply.isDeviceReset] using other pending r rfl
  have isBusy : s.rlt.lane.isBusy = true := by rw [busy]; rfl
  have frees : s.freeLane = { s with rlt := { s.rlt with lane := .idle }.arbitrate } := if_neg (by simp [notAwaited])
  exact congrArg Host.Outcome.next ((event_acts running isBusy).trans (congrArg State.settle frees))

/-- An idle lane with nothing waiting stays so. -/
theorem settle_of_nothing (idle : s.rlt.lane = .idle) (noNotice : s.rlt.notices = []) (noReply : s.rlt.replies = []) :
    s.settle = s := by
  rw [State.settle_one s idle (Or.inl noNotice), Rlt.arbitrate_empty noNotice noReply]

/-- Settles O51: the arbiter's table at a lane-free event, and at the end of every other step. -/
theorem laneFreeChooses : Obligations.LaneFreeChooses := by
  refine ⟨fun s m sent running busy other => ?free, fun s => ⟨rfl, fun m sent busy => ?busy, fun idle => ?idle⟩⟩
  case free =>
    rw [exec_laneFree_other running busy other]
    refine ⟨fun noNotice noReply => ?nothing, fun n rest notices first => ?notice, fun r rest replies first => ?reply⟩
    case nothing =>
      rw [Rlt.arbitrate_empty (r := { s.rlt with lane := .idle }) noNotice noReply]
      exact congrArg _ (settle_of_nothing rfl noNotice noReply)
    case notice =>
      rw [Rlt.arbitrate_notice (r := { s.rlt with lane := .idle }) notices first]
      exact congrArg _ (State.settle_busy _ rfl)
    case reply =>
      rw [Rlt.arbitrate_reply (r := { s.rlt with lane := .idle }) replies first]
      exact congrArg _ (State.settle_busy _ rfl)
  case busy => exact State.settle_busy s (by rw [busy]; rfl)
  case idle =>
    refine ⟨fun noNotice noReply => settle_of_nothing idle noNotice noReply, fun r rest replies noNotice => ?reply,
      fun n rest notices first => ?notice, fun n notices r replies hasNotice hasReply kind => ?both⟩
    case reply => rw [State.settle_one s idle (Or.inl noNotice), Rlt.arbitrate_reply replies (Or.inl noNotice)]
    case notice =>
      have noChoice : s.rlt.notices = [] ∨ s.rlt.replies = [] ∨ s.rlt.resetDoneWaits = true :=
        Or.inr (first.imp id fun kind => by simp [Rlt.resetDoneWaits, notices, kind])
      rw [State.settle_one s idle noChoice, Rlt.arbitrate_notice notices (first.imp id Or.inr)]
    case both =>
      rw [State.settle_both s idle hasNotice hasReply kind, Rlt.sendReply_cons _ _ _ hasReply,
        Rlt.sendNotice_cons _ _ _ hasNotice]

/-! ### The bytes of a message (Tables 10-1 and 10-2) -/

theorem toNat_append_bytes (x y : Byte) : (x ++ y : Word16).toNat = x.toNat * 256 + y.toNat := by
  rw [BitVec.toNat_append, ← Nat.shiftLeft_add_eq_or_of_lt y.isLt, Nat.shiftLeft_eq]

/-- A number in two bytes is its 16-bit register. -/
theorem byteOf_append_byteOf (n : Nat) : (byteOf (n / 256) ++ byteOf n : Word16) = BitVec.ofNat 16 n := by
  apply BitVec.eq_of_toNat_eq
  rw [toNat_append_bytes, byteOf, byteOf, BitVec.toNat_ofNat, BitVec.toNat_ofNat, BitVec.toNat_ofNat]
  omega

theorem byteOf_bit (b : Bool) : byteOf (bit b) = if b then 1 else 0 := by cases b <;> rfl

theorem Reply.length_bytes (r : Reply) : r.bytes.length = 10 + r.data.length := by
  simp only [Reply.bytes, List.length_append, List.length_cons, List.length_nil, length_wordBytes2, length_natBytes2]

theorem Message.length_body (m : Message) : m.body.length + 4 = m.length := by
  cases m with
  | reply r =>
    show r.bytes.length + 4 = 14 + r.data.length
    rw [r.length_bytes]
    omega
  | notice n lost => rfl

theorem Message.length_bytes (m : Message) : m.bytes.length = m.length := by
  rw [Message.bytes, List.length_append, length_wordBytes4, m.length_body]

/-- R159: the last four bytes are the check over the others. -/
theorem Message.check (m : Message) :
    wordAt4 m.bytes (m.length - 4) = payloadCheck (m.bytes.take (m.length - 4)) := by
  have start : m.length - 4 = m.body.length := by rw [← m.length_body]; rfl
  have check : wordAt4 m.bytes (m.body.length + 0) = payloadCheck m.body := by
    rw [Message.bytes, wordAt4_append_right]
    exact wordAt4_wordBytes4 _ []
  rw [start, Message.bytes, List.take_left]
  exact check

theorem NoticeKind.toNat_number (k : NoticeKind) : (byteOf k.number).toNat = k.number := by
  cases k <;> rfl

/-! ### A message on the lane (R159) -/

theorem symbol_busy (m : Message) (k : Nat) :
    (Lane.busy m k).symbol = if k = 0 then .startMarked (byteAt m.bytes 0) else .data (byteAt m.bytes k) := by
  cases k <;> rfl

theorem Message.length_pos (m : Message) : 0 < m.length := by
  rw [← m.length_body]
  omega

/-- The lane-free event starts no timer. -/
theorem laneFree_timers (noSilence : s.lrx.silence = none) (closed : s.mge.session = none) :
    (laneFree s).lrx.silence = none ∧ (laneFree s).mge.session = none := by
  rcases event_cases (·.rlt.lane.isBusy) State.freeLane s with same | ⟨-, -, acts⟩
  · rw [laneFree, same]
    exact ⟨noSilence, closed⟩
  · rw [laneFree, acts, State.settle_lrx, State.settle_mge, State.freeLane]
    split
    · exact ⟨rfl, rfl⟩
    · exact ⟨noSilence, closed⟩

/-- The byte time after a message's last byte, with both timers stopped, is the lane-free event. -/
theorem tick_of_last {m : Message} {sent : Nat} (running : s.resetHeld = false) (busy : s.rlt.lane = .busy m sent)
    (noSilence : s.lrx.silence = none) (closed : s.mge.session = none) (last : m.length ≤ sent + 1) :
    tick s = laneFree s := by
  obtain ⟨noSilenceAfter, closedAfter⟩ := laneFree_timers noSilence closed
  have lane : tickLane s = laneFree s := by simp [tickLane, busy, Nat.not_lt.mpr last]
  simp [tick, running, lane, tickSilence, noSilenceAfter, tickIdle, closedAfter]

/-- Settles O52: the fields by the layout of each message; the byte times by induction on the bytes sent. -/
theorem messagesOnTheLane : Obligations.MessagesOnTheLane := by
  refine ⟨fun m => ⟨m.length_bytes, fun r isReply => ?reply, fun n lost isNotice => ?notice, m.check⟩,
    fun s idle => ?idle, fun s m run running noPending noSilence closed busy start steps => ?sent⟩
  case reply =>
    subst isReply
    exact ⟨rfl, rfl, rfl, wordAt2_wordBytes2 r.epoch [], rfl, r.status.code_mem, byteOf_bit r.replayed, rfl,
      byteOf_append_byteOf r.data.length, List.take_left⟩
  case notice =>
    subst isNotice
    refine ⟨rfl, rfl, ?kind, wordAt4_wordBytes4 n.frame [], wordAt2_wordBytes2 n.detail [], rfl⟩
    case kind =>
      have kind := n.kind.number_mem
      rw [← n.kind.toNat_number] at kind
      exact kind
  case idle =>
    rw [State.laneSymbol, idle]
    exact ite_self _
  case sent =>
    have ticks (k : Nat) (empty : (run k).pending = []) : run (k + 1) = tick (run k) := by
      have stepped := steps k
      rw [step, empty] at stepped
      exact (Host.Outcome.next.inj stepped).symm
    have progress (k : Nat) (inside : k < m.length) : run k = { s with rlt.lane := .busy m k } := by
      induction k with
      | zero => rw [start, ← busy]
      | succ k ih =>
        have here := ih (Nat.lt_of_succ_lt inside)
        rw [ticks k (by rw [here]; exact noPending), here]
        exact tick_of_busy _ m k running rfl noSilence closed inside
    refine ⟨fun k inside => ⟨progress k inside, ?symbol⟩, ?free⟩
    case symbol =>
      have held : (run k).resetHeld = false := by rw [progress k inside]; exact running
      have lane : (run k).rlt.lane = .busy m k := by rw [progress k inside]
      rw [State.laneSymbol, held, lane, ← symbol_busy]
      rfl
    case free =>
      have positive := m.length_pos
      have here := progress (m.length - 1) (by omega)
      have next := ticks (m.length - 1) (by rw [here]; exact noPending)
      rw [Nat.sub_add_cancel positive] at next
      rw [next, here]
      have last := tick_of_last (s := { s with rlt.lane := .busy m (m.length - 1) }) running rfl noSilence closed
        (by omega)
      exact congrArg Host.Outcome.next last.symm

end Sys2Proof.Machine
end

section
/-! SUPPORT. The packets of the forward link (Tables 1-1 to 1-3), what scores them (R7, R8), the link reset (R10) with the
device reset it can carry (R157), and the routing of a good packet (R11). -/

namespace Sys2Proof.Machine

variable {s : State} {bytes : List Byte} {i : Instr} {cause : LossCause}

/-! ### The class of a packet (R5) -/

theorem headerPasses_iff (b : List Byte) : headerPasses b = true ↔ headerCheck (b.take 6) = wordAt2 b 6 := by
  simp [headerPasses]

/-- The header of Table 1-3's rows from the fourth on. -/
def GoodHeader (b : List Byte) : Prop := 8 ≤ b.length ∧ headerCheck (b.take 6) = wordAt2 b 6 ∧ headerAllowed b

/-- The payload check of R3, for a packet that has one. -/
def PayloadPasses (b : List Byte) : Prop :=
  payloadCheck ((b.drop 8).take (natAt2 b 4)) = wordAt4 b (8 + natAt2 b 4)

/-- Table 1-3 row by row: each class with the condition under which the reception has it. -/
theorem classify_cases (b : List Byte) :
    (b.length < 8 ∧ classify b = .short)
    ∨ (8 ≤ b.length ∧ headerCheck (b.take 6) ≠ wordAt2 b 6 ∧ classify b = .corrupt)
    ∨ (8 ≤ b.length ∧ headerCheck (b.take 6) = wordAt2 b 6 ∧ ¬headerAllowed b ∧ classify b = .malformed)
    ∨ (GoodHeader b ∧ natAt2 b 4 ≠ 0 ∧ b.length < 8 + natAt2 b 4 + 4 ∧ classify b = .truncated)
    ∨ (GoodHeader b ∧ natAt2 b 4 ≠ 0 ∧ 8 + natAt2 b 4 + 4 ≤ b.length ∧ ¬PayloadPasses b
        ∧ classify b = .payloadFailed)
    ∨ (GoodHeader b ∧ (natAt2 b 4 = 0 ∨ 8 + natAt2 b 4 + 4 ≤ b.length ∧ PayloadPasses b) ∧ classify b = .good) := by
  have passes := headerPasses_iff b
  have allowed := wellFormed_headerOf b
  have payload : payloadPasses b = true ↔ natAt2 b 4 = 0 ∨ PayloadPasses b := by
    simp [payloadPasses, PayloadPasses, payloadOf, receivedCheck, headerOf]
  have length : (headerOf b).packetLength = if natAt2 b 4 = 0 then 8 else 8 + natAt2 b 4 + 4 := rfl
  unfold classify
  split
  next short => exact Or.inl ⟨short, rfl⟩
  next long =>
    have long := Nat.le_of_not_lt long
    split
    next corrupt => exact Or.inr (Or.inl ⟨long, fun same => by simp [passes.mpr same] at corrupt, rfl⟩)
    next checked =>
      have checked : headerCheck (b.take 6) = wordAt2 b 6 := passes.mp (by simpa using checked)
      split
      next malformed =>
        exact Or.inr (Or.inr (Or.inl ⟨long, checked, fun fine => by simp [allowed.mpr fine] at malformed, rfl⟩))
      next wellFormed =>
        have header : GoodHeader b := ⟨long, checked, allowed.mp (by simpa using wellFormed)⟩
        refine Or.inr (Or.inr (Or.inr ?_))
        split
        next truncated =>
          rw [length] at truncated
          split at truncated
          next => omega
          next some => exact Or.inl ⟨header, some, truncated, rfl⟩
        next whole =>
          rw [length] at whole
          split
          next failed =>
            have failed : ¬(natAt2 b 4 = 0 ∨ PayloadPasses b) := by simpa [← payload] using failed
            rw [not_or] at failed
            rw [if_neg failed.1] at whole
            exact Or.inr (Or.inl ⟨header, failed.1, Nat.le_of_not_lt whole, failed.2, rfl⟩)
          next good =>
            have good : natAt2 b 4 = 0 ∨ PayloadPasses b := payload.mp (by simpa using good)
            refine Or.inr (Or.inr ⟨header, ?_, rfl⟩)
            by_cases empty : natAt2 b 4 = 0
            · exact Or.inl empty
            · rw [if_neg empty] at whole
              exact Or.inr ⟨Nat.le_of_not_lt whole, good.resolve_left empty⟩

/-- A packet of a good-header class has an allowed header and all its bytes. -/
theorem goodHeader_packet {b : List Byte} (good : (classify b).goodHeader = true) :
    headerAllowed b ∧ (natAt2 b 4 ≠ 0 → 8 + natAt2 b 4 + 4 ≤ b.length) := by
  rcases classify_cases b with ⟨-, row⟩ | ⟨-, -, row⟩ | ⟨-, -, -, row⟩ | ⟨-, -, -, row⟩ | ⟨header, -, whole, -, -⟩
    | ⟨header, whole, -⟩
  case inr.inr.inr.inr.inl => exact ⟨header.2.2, fun _ => whole⟩
  case inr.inr.inr.inr.inr => exact ⟨header.2.2, fun some => (whole.resolve_left some).1⟩
  all_goals simp [row, PacketClass.goodHeader] at good

/-! ### A packet as a source sends it (Table 1-1) -/

theorem natAt2_eq_toNat (b : List Byte) (k : Nat) : natAt2 b k = (wordAt2 b k).toNat := by
  rw [natAt2, wordAt2, toNat_append_bytes]

/-- The fields of a well-formed header fit their bytes. -/
theorem Header.fits {h : Header} (wellFormed : h.wellFormed = true) :
    h.kind < 256 ∧ h.number < 65536 ∧ h.length < 65536 := by
  unfold Header.wellFormed at wellFormed
  split at wellFormed
  case h_6 => simp at wellFormed
  all_goals
    simp only [Bool.and_eq_true, decide_eq_true_eq, beq_iff_eq] at wellFormed
    omega

section
variable {h : Header} {payload : List Byte}

theorem packetBytes_take : (packetBytes h payload).take 6 = h.bytes := by
  rw [packetBytes, List.append_assoc]
  exact List.take_left' (length_headerBytes h)

theorem packetBytes_headerCheck : wordAt2 (packetBytes h payload) 6 = headerCheck h.bytes := by
  rw [packetBytes, List.append_assoc]
  have placed := wordAt2_append_right h.bytes
    (wordBytes2 (headerCheck h.bytes) ++ if h.length = 0 then [] else payload ++ wordBytes4 (payloadCheck payload)) 0
  rw [length_headerBytes] at placed
  exact placed.trans (wordAt2_wordBytes2 _ _)

theorem headerOf_packetBytes (wellFormed : h.wellFormed = true) : headerOf (packetBytes h payload) = h := by
  obtain ⟨kind, number, length⟩ := Header.fits wellFormed
  have kindRead : (byteOf h.kind).toNat = h.kind := by
    rw [byteOf, BitVec.toNat_ofNat]
    omega
  have numberRead : natAt2 (packetBytes h payload) 2 = h.number := natAt2_natBytes2 h.number [] number
  have lengthRead : natAt2 (packetBytes h payload) 4 = h.length := natAt2_natBytes2 h.length [] length
  have kindByte : (byteAt (packetBytes h payload) 0).toNat = h.kind := kindRead
  have tagByte : byteAt (packetBytes h payload) 1 = h.tag := rfl
  rw [headerOf, kindByte, tagByte, numberRead, lengthRead]

theorem packetBytes_drop (h : Header) (payload : List Byte) : (packetBytes h payload).drop 8
    = if h.length = 0 then [] else payload ++ wordBytes4 (payloadCheck payload) := by
  rw [packetBytes]
  exact List.drop_left' (by simp)

theorem length_packetBytes (carried : payload.length = h.length) :
    (packetBytes h payload).length = if h.length = 0 then 8 else 8 + h.length + 4 := by
  rw [packetBytes, List.length_append, List.length_append, length_headerBytes, length_wordBytes2]
  split
  next => rfl
  next =>
    rw [List.length_append, length_wordBytes4, carried]
    omega

theorem payloadOf_packetBytes (wellFormed : h.wellFormed = true) (carried : payload.length = h.length) :
    payloadOf (packetBytes h payload) = payload := by
  rw [payloadOf, headerOf_packetBytes wellFormed, packetBytes_drop]
  split
  next empty => rw [List.take_nil, List.eq_nil_of_length_eq_zero (carried.trans empty)]
  next => rw [← carried, List.take_left]

theorem wordAt4_drop (b : List Byte) (n k : Nat) : wordAt4 (b.drop n) k = wordAt4 b (n + k) := by
  simp only [wordAt4, wordAt2, byteAt_drop, Nat.add_assoc]

theorem receivedCheck_packetBytes (wellFormed : h.wellFormed = true) (carried : payload.length = h.length)
    (some : h.length ≠ 0) : receivedCheck (packetBytes h payload) = payloadCheck payload := by
  have check : wordAt4 (payload ++ wordBytes4 (payloadCheck payload)) (payload.length + 0) = payloadCheck payload := by
    rw [wordAt4_append_right]
    exact wordAt4_wordBytes4 _ []
  rw [receivedCheck, headerOf_packetBytes wellFormed, ← wordAt4_drop, packetBytes_drop, if_neg some, ← carried]
  exact check

theorem classify_packetBytes (wellFormed : h.wellFormed = true) (carried : payload.length = h.length) :
    classify (packetBytes h payload) = .good := by
  have header := headerOf_packetBytes (payload := payload) wellFormed
  have length := length_packetBytes carried
  have long : ¬(packetBytes h payload).length < 8 := by
    rw [length]
    split <;> omega
  have passes : headerPasses (packetBytes h payload) = true := by
    rw [headerPasses_iff, packetBytes_take, packetBytes_headerCheck]
  have whole : ¬(packetBytes h payload).length < h.packetLength := by
    rw [length, Header.packetLength]
    exact Nat.lt_irrefl _
  have payloadPasses : payloadPasses (packetBytes h payload) = true := by
    by_cases empty : h.length = 0
    · simp [payloadPasses, header, empty]
    · simp [payloadPasses, payloadOf_packetBytes wellFormed carried, receivedCheck_packetBytes wellFormed carried empty]
  simp [classify, long, passes, header, wellFormed, whole, payloadPasses]

end

/-- Settles O6: the classes by the rows of Table 1-3, then the packet of a source read back part by part. -/
theorem packetsReadBack : Obligations.PacketsReadBack := by
  refine ⟨fun b n headerGood hn good => ?classes, fun b k => ⟨rfl, rfl, rfl, natAt2_eq_toNat b k⟩, by decide +kernel,
    by decide +kernel, fun h payload wellFormed carried => ⟨classify_packetBytes wellFormed carried,
      length_packetBytes carried, headerOf_packetBytes wellFormed, payloadOf_packetBytes wellFormed carried,
      receivedCheck_packetBytes wellFormed carried⟩⟩
  case classes =>
    subst hn
    have good : headerGood ↔ GoodHeader b := good
    rw [good]
    refine ⟨?_, ?_, ?_, ?_, ?_, ?_, ?_, rfl, rfl, rfl⟩
    all_goals
      rcases classify_cases b with ⟨short, row⟩ | ⟨long, corrupt, row⟩ | ⟨long, checked, malformed, row⟩
        | ⟨here, some, truncated, row⟩ | ⟨here, some, whole, failed, row⟩ | ⟨here, whole, row⟩ <;>
      grind [PacketClass.goodHeader, PayloadPasses, GoodHeader]

end Sys2Proof.Machine
end

section
/-! SUPPORT. Scoring and routing of received packets (R7, R8, R11), and the rows that raise a link reset (R10), with the
device reset they can carry (R157). -/

namespace Sys2Proof.Machine

variable {s : State} {bytes : List Byte} {i : Instr} {cause : LossCause}

/-! ### The rows of the forward link as events -/

theorem exec_packetReceptionEnd (running : s.resetHeld = false) (receiving : s.lrx.receiving = true) :
    exec (.packetReceptionEnd bytes) s = .next (s.endReception bytes).settle :=
  congrArg Host.Outcome.next (event_acts running receiving)

theorem exec_startSymbol (running : s.resetHeld = false) :
    exec .startSymbol s = .next s.cutReception.beginReception.settle :=
  congrArg Host.Outcome.next (event_acts running rfl)

theorem exec_silenceTimerExpiry (running : s.resetHeld = false) (timer : s.lrx.silence.isSome = true) :
    exec .silenceTimerExpiry s = .next (s.linkReset .silence).settle :=
  congrArg Host.Outcome.next (event_acts running timer)

theorem endReception_of_bad (bad : (classify bytes).goodHeader = false) :
    s.endReception bytes = State.scoreBad { s with lrx.receiving := false } := by
  simp [State.endReception, bad]

theorem endReception_of_good_search (good : (classify bytes).goodHeader = true) (search : s.lrx.lock = .search) :
    s.endReception bytes = State.scoreGoodSearch { s with lrx.receiving := false } := by
  simp [State.endReception, good, search]

theorem endReception_of_good_locked (good : (classify bytes).goodHeader = true) (locked : s.lrx.lock = .locked) :
    s.endReception bytes = State.route { s with lrx := { s.lrx with receiving := false, badRun := 0 } } bytes
      (classify bytes == .payloadFailed) := by
  simp [State.endReception, good, locked]

/-! ### Scores (R7, R8) -/

theorem scoreBad_of_search (search : s.lrx.lock = .search) : s.scoreBad = { s with lrx.goodRun := 0 } := by
  simp [State.scoreBad, search]

theorem scoreBad_of_few (locked : s.lrx.lock = .locked) (few : s.lrx.badRun < 7) :
    s.scoreBad = { s.count .badPacket with lrx.badRun := s.lrx.badRun + 1 } := by
  simp only [State.scoreBad, locked]
  exact if_neg (Nat.not_le.mpr (Nat.succ_lt_succ few))

theorem scoreBad_of_eighth (locked : s.lrx.lock = .locked) (eighth : 7 ≤ s.lrx.badRun) :
    s.scoreBad = (s.count .badPacket).linkReset .badRun := by
  simp only [State.scoreBad, locked]
  exact if_pos (Nat.succ_le_succ eighth)

theorem scoreGoodSearch_of_few (few : s.lrx.goodRun < 3) :
    s.scoreGoodSearch = { s with lrx.goodRun := s.lrx.goodRun + 1 } :=
  if_neg (Nat.not_le.mpr (Nat.succ_lt_succ few))

theorem scoreGoodSearch_of_fourth (fourth : s.lrx.goodRun = 3) :
    s.scoreGoodSearch = State.raise { s with
      lrx := { s.lrx with lock := .locked, goodRun := 0, badRun := 0, silence := some 0 } } .linkLocked 0 :=
  if_pos (Nat.succ_le_succ fourth.ge)

/-- Settles O7: the score of R7 by the class and the good run. -/
theorem receptionInSearch : Obligations.ReceptionInSearch := by
  intro s bytes running receiving search
  rw [exec_packetReceptionEnd running receiving]
  refine ⟨fun bad => ?bad, fun good few => ?few, fun good fourth => ?fourth⟩
  case bad => rw [endReception_of_bad bad, scoreBad_of_search (s := { s with lrx.receiving := false }) search]
  case few =>
    rw [endReception_of_good_search good search, scoreGoodSearch_of_few (s := { s with lrx.receiving := false }) few]
  case fourth =>
    rw [endReception_of_good_search good search,
      scoreGoodSearch_of_fourth (s := { s with lrx.receiving := false }) fourth]

/-! ### Routing (Table 1-6) -/

section
variable {damaged : Bool}

theorem route_open (kind : (headerOf bytes).kind = 1) : s.route bytes damaged = s.openArrival (headerOf bytes).tag := by
  simp [State.route, kind]

theorem route_line (kind : (headerOf bytes).kind = 2) : s.route bytes damaged = s.lineArrival
    { tag := (headerOf bytes).tag, number := (headerOf bytes).number, damaged := damaged,
      pixels := pixelsOf (payloadOf bytes) } := by
  simp [State.route, kind]

theorem route_gap (kind : (headerOf bytes).kind = 3) : s.route bytes damaged = s := by
  simp [State.route, kind]

theorem route_close (kind : (headerOf bytes).kind = 4) :
    s.route bytes damaged = s.closeArrival (headerOf bytes).tag := by
  simp [State.route, kind]

theorem route_command (kind : (headerOf bytes).kind = 5) : s.route bytes damaged = if damaged then s.count .badPacket
    else s.commandArrival { payload := payloadOf bytes, fingerprint := receivedCheck bytes } := by
  simp [State.route, kind]

end

/-- The pixels of a LINE packet of a good-header class are the colours of its payload (Table 1-1). -/
theorem line_pixels (good : (classify bytes).goodHeader = true) (kind : (headerOf bytes).kind = 2) :
    3 * (pixelsOf (payloadOf bytes)).length = (headerOf bytes).length
      ∧ coloursAt bytes 8 (pixelsOf (payloadOf bytes)) := by
  obtain ⟨allowed, whole⟩ := goodHeader_packet good
  have lineKind : byteAt bytes 0 = 2 := (toNat_eq_iff (by decide)).mp kind
  have line : 3 ≤ natAt2 bytes 4 ∧ natAt2 bytes 4 % 3 = 0 := by
    rcases allowed with ⟨other, -⟩ | ⟨-, -, some, -, threes⟩ | ⟨other, -⟩ | ⟨other, -⟩
    case inr.inl => exact ⟨some, threes⟩
    all_goals simp [lineKind] at other
  have inside : natAt2 bytes 4 ≤ (bytes.drop 8).length := by
    rw [List.length_drop]
    have := whole (by omega)
    omega
  have length : (payloadOf bytes).length = natAt2 bytes 4 := List.length_take_of_le inside
  refine ⟨?_, fun k below => ?_⟩
  · rw [length_pixelsOf, length]
    show _ = natAt2 bytes 4
    omega
  · rw [length_pixelsOf, length] at below
    have placed (j : Nat) (few : j < 3) :
        byteAt (payloadOf bytes) (0 + 3 * k + j) = byteAt bytes (8 + 3 * k + j) := by
      have within : 0 + 3 * k + j < natAt2 bytes 4 := by omega
      rw [payloadOf]
      refine (byteAt_take within).trans ?_
      rw [byteAt_drop]
      congr 1
      omega
    have colours := coloursAt_pixelsOf (payloadOf bytes) k (by rw [length_pixelsOf, length]; omega)
    have first : byteAt (payloadOf bytes) (0 + 3 * k) = byteAt bytes (8 + 3 * k) := placed 0 (by decide)
    rw [first, placed 1 (by decide), placed 2 (by decide)] at colours
    exact colours

/-- Settles O8: the routing of Table 1-6 by the kind. -/
theorem goodHeaderIsRoutedInLocked : Obligations.GoodHeaderIsRoutedInLocked := by
  rintro s _ bytes running receiving locked good rfl
  rw [exec_packetReceptionEnd running receiving, endReception_of_good_locked good locked]
  refine ⟨fun kind => by rw [route_open kind], fun kind => ?line, fun kind => by rw [route_gap kind],
    fun kind => by rw [route_close kind], fun kind whole => ?command, fun kind failed => ?failed⟩
  case line =>
    obtain ⟨length, colours⟩ := line_pixels good kind
    exact ⟨pixelsOf (payloadOf bytes), length, colours, by rw [route_line kind]; rfl⟩
  case command =>
    rw [route_command kind, whole]
    rfl
  case failed =>
    rw [route_command kind, failed]
    rfl

/-! ### Start symbols and bad packets (R1, R8, R9) -/

theorem cutReception_of_quiet (quiet : s.lrx.receiving = false) : s.cutReception = s := by
  simp [State.cutReception, quiet]

theorem cutReception_of_receiving (receiving : s.lrx.receiving = true) : s.cutReception = s.scoreBad := by
  simp [State.cutReception, receiving]

theorem beginReception_of_search (search : s.lrx.lock = .search) :
    s.beginReception = { s with lrx.receiving := true } := by
  simp [State.beginReception, search]

theorem beginReception_of_locked (locked : s.lrx.lock = .locked) :
    s.beginReception = { s with lrx := { s.lrx with receiving := true, silence := some 0 } } := by
  simp [State.beginReception, locked]

theorem linkReset_lock (cause : LossCause) : (s.linkReset cause).lrx.lock = .search := by
  rw [linkReset_lrx]
  rfl

theorem exec_packetReceptionEnd_eighth (running : s.resetHeld = false) (receiving : s.lrx.receiving = true)
    (locked : s.lrx.lock = .locked) (bad : (classify bytes).goodHeader = false) (eighth : 7 ≤ s.lrx.badRun) :
    exec (.packetReceptionEnd bytes) s
      = .next ((({ s with lrx.receiving := false } : State).count .badPacket).linkReset .badRun).settle := by
  rw [exec_packetReceptionEnd running receiving, endReception_of_bad bad,
    scoreBad_of_eighth (s := { s with lrx.receiving := false }) locked eighth]

theorem exec_startSymbol_eighth (running : s.resetHeld = false) (receiving : s.lrx.receiving = true)
    (locked : s.lrx.lock = .locked) (eighth : 7 ≤ s.lrx.badRun) :
    exec .startSymbol s
      = .next (State.settle { (s.count .badPacket).linkReset .badRun with lrx.receiving := true }) := by
  rw [exec_startSymbol running, cutReception_of_receiving receiving, scoreBad_of_eighth locked eighth,
    beginReception_of_search (linkReset_lock _)]

/-- Settles O9: the score, and for a start symbol the reception it begins. -/
theorem badPacketsAndStartSymbols : Obligations.BadPacketsAndStartSymbols := by
  refine ⟨fun s bytes running receiving locked bad => ⟨fun few => ?few, fun eighth => ?eighth⟩, fun s running =>
    ⟨fun quiet search => ?beginSearch, fun quiet locked => ?beginLocked, fun receiving search => ?cutSearch,
      fun receiving locked few => ?cutFew, fun receiving locked eighth => ?cutEighth⟩⟩
  case few =>
    rw [exec_packetReceptionEnd running receiving, endReception_of_bad bad,
      scoreBad_of_few (s := { s with lrx.receiving := false }) locked few]
    rfl
  case eighth => exact exec_packetReceptionEnd_eighth running receiving locked bad eighth.ge
  case beginSearch =>
    rw [exec_startSymbol running, cutReception_of_quiet quiet, beginReception_of_search search]
  case beginLocked =>
    rw [exec_startSymbol running, cutReception_of_quiet quiet, beginReception_of_locked locked]
  case cutSearch =>
    rw [exec_startSymbol running, cutReception_of_receiving receiving, scoreBad_of_search search,
      beginReception_of_search (s := { s with lrx.goodRun := 0 }) search, ← receiving]
  case cutFew =>
    rw [exec_startSymbol running, cutReception_of_receiving receiving, scoreBad_of_few locked few,
      beginReception_of_locked (s := { s.count .badPacket with lrx.badRun := s.lrx.badRun + 1 }) locked, ← receiving]
    rfl
  case cutEighth => exact exec_startSymbol_eighth running receiving locked eighth.ge

/-! ### The rows that raise a link reset (R10) -/

/-- The receiver a link reset leaves (R6, R10): it keeps a packet in reception, unless the device reset takes it. -/
theorem linkReset_lrx_eq (cause : LossCause) :
    (s.linkReset cause).lrx = Lrx.lost (!s.resetReplyQueued && s.lrx.receiving) := by
  cases queued : s.resetReplyQueued with
  | false =>
    rw [linkReset_of_not_queued queued, (State.dropLink_frame _).1]
    rfl
  | true =>
    rw [linkReset_of_queued queued]
    rfl

theorem linkReset_with_receiving (cause : LossCause) (receiving : Bool) :
    { s.linkReset cause with lrx.receiving := receiving } = { s.linkReset cause with lrx := Lrx.lost receiving } := by
  dsimp only
  rw [linkReset_lrx_eq]
  rfl

/-- A row that raises a link reset, by its cause: the reset of a state that differs from the one before by the bad packet
counted, and the receiver that the row leaves. -/
theorem exec_linkResetRow (running : s.resetHeld = false) (row : linkResetRow s i cause) : ∃ bank held receiving,
    exec i s = .next (State.settle { State.linkReset { s with ctb := bank, lrx.receiving := held } cause with
      lrx := Lrx.lost receiving })
    ∧ (i = .silenceTimerExpiry → receiving = (!s.resetReplyQueued && s.lrx.receiving))
    ∧ (i = .startSymbol → receiving = true) ∧ (∀ bytes, i = .packetReceptionEnd bytes → receiving = false)
    ∧ (cause = .silence → bank = s.ctb) ∧ (cause = .badRun → bank = s.ctb.count .badPacket) := by
  cases cause with
  | silence =>
    obtain ⟨rfl, timer⟩ := row
    refine ⟨s.ctb, s.lrx.receiving, !s.resetReplyQueued && s.lrx.receiving, ?_, by simp, by simp, by simp, by simp,
      by simp⟩
    rw [exec_silenceTimerExpiry running timer, ← linkReset_lrx_eq .silence]
  | badRun =>
    obtain ⟨receiving, locked, eighth, rfl | ⟨bytes, rfl, bad⟩⟩ := row
    · refine ⟨s.ctb.count .badPacket, s.lrx.receiving, true, ?_, by simp, by simp, by simp, by simp, by simp⟩
      rw [exec_startSymbol_eighth running receiving locked eighth, linkReset_with_receiving]
      rfl
    · refine ⟨s.ctb.count .badPacket, false, false, ?_, by simp, by simp, by simp, by simp, by simp⟩
      have quiet := linkReset_lrx_eq (s := ({ s with lrx.receiving := false } : State).count .badPacket) .badRun
      rw [State.count_lrx, Bool.and_false] at quiet
      rw [exec_packetReceptionEnd_eighth running receiving locked bad eighth, ← quiet]
      rfl

theorem resetReplyQueued_eq_false_iff : s.resetReplyQueued = false
    ↔ (s.mge.resetPending = true → ∀ r ∈ s.rlt.replies, ¬(r.code = 0x06 ∧ r.status = .done)) := by
  cases pending : s.mge.resetPending <;> simp [State.resetReplyQueued, Reply.isDeviceReset, pending]

/-- The responses of the other blocks, field by field (Table 1-5). -/
theorem dropLink_fields (s : State) : s.dropLink.frames = [] ∧ s.dropLink.store = []
    ∧ s.dropLink.lsq = { s.lsq with bound := none } ∧ s.dropLink.rlt = { s.rlt with replies := [] }
    ∧ s.dropLink.mge = { s.mge with
        commands := [], session := none, cache := if s.mge.session.isSome then [] else s.mge.cache }
    ∧ s.dropLink.cfs = if s.mge.session.isSome then s.cfs.atSessionClose else s.cfs := by
  cases session : s.mge.session with
  | none =>
    rw [dropLink_of_closed session]
    refine ⟨rfl, rfl, rfl, rfl, ?_, rfl⟩
    show { s.mge with commands := [] } = { s.mge with commands := [], session := none, cache := s.mge.cache }
    rw [← session]
  | some x =>
    rw [dropLink_of_open session]
    exact ⟨rfl, rfl, rfl, rfl, rfl, rfl⟩

/-- Emptying the reply queue does not change what a raise does. -/
theorem raise_without_replies (r : Rlt) (k : NoticeKind) (d : Word16) (f : Word32) :
    ({ r with replies := [] } : Rlt).raise k d f = { r.raise k d f with replies := [] } := by
  unfold Rlt.raise Rlt.offer
  split
  · rfl
  · split <;> rfl

/-- A link reset with no device reset behind a queued reply, and the arbiter after it, block by block (Table 1-5). -/
theorem linkReset_fields {t : State} {receiving : Bool} (other : s.resetReplyQueued = false)
    (settled : t = State.settle { s.linkReset cause with lrx := Lrx.lost receiving }) :
    t.lrx = Lrx.lost receiving ∧ t.frames = [] ∧ t.store = [] ∧ t.lsq = { s.lsq with bound := none }
      ∧ t.mge = { s.mge with
          commands := [], session := none, cache := if s.mge.session.isSome then [] else s.mge.cache }
      ∧ t.cfs = (if s.mge.session.isSome then s.cfs.atSessionClose else s.cfs)
      ∧ t.otg = s.otg ∧ t.ovc = s.ovc ∧ t.resetHeld = s.resetHeld ∧ t.powerOns = s.powerOns
      ∧ t.ctb = s.ctb.count .linkLoss
      ∧ t.rlt = (({ s.rlt with replies := [] } : Rlt).raise .linkLost cause.detail s.otg.frameNumber).settle s.choices := by
  rw [linkReset_of_not_queued other] at settled
  obtain ⟨frames, store, lsq, rlt, mge, cfs⟩ := dropLink_fields (s.loseLock cause)
  obtain ⟨-, otg, ovc, ctb, resetHeld, powerOns, choices, -⟩ := State.dropLink_frame (s.loseLock cause)
  subst settled
  refine ⟨rfl, frames, store, lsq, mge, cfs, otg, ovc, resetHeld, powerOns, ctb, ?_⟩
  show (s.loseLock cause).dropLink.rlt.settle (s.loseLock cause).dropLink.choices = _
  rw [rlt, choices, raise_without_replies]
  rfl

theorem Cfs.atSessionClose_fields (f : Cfs) : f.atSessionClose.active = f.active
    ∧ f.atSessionClose.commitPending = f.commitPending
    ∧ f.atSessionClose.staging = if f.commitPending = none then f.active.getD Bank.default else f.staging := by
  rw [Cfs.atSessionClose_eq]
  cases pending : f.commitPending <;> simp [pending]

/-- Settles O10: the rows meet in one link reset, whose responses are Table 1-5. -/
theorem silenceExpiryResetsLink : Obligations.SilenceExpiryResetsLink := by
  intro s i cause running row other
  have notQueued := resetReplyQueued_eq_false_iff.mpr other
  obtain ⟨bank, held, receiving, acts, silence, start, cut, quietBank, badBank⟩ := exec_linkResetRow running row
  obtain ⟨t, settled⟩ : ∃ t, t = State.settle { State.linkReset { s with ctb := bank, lrx.receiving := held } cause with
    lrx := Lrx.lost receiving } := ⟨_, rfl⟩
  rw [← settled] at acts
  obtain ⟨lrx, frames, store, lsq, mge, cfs, otg, ovc, resetHeld, powerOns, ctb, rlt⟩ :=
    linkReset_fields (s := { s with ctb := bank, lrx.receiving := held }) notQueued settled
  obtain ⟨active, commitPending, staging⟩ := s.cfs.atSessionClose_fields
  refine ⟨t, receiving, acts, fun row => by simp [silence row, notQueued], start, cut, lrx, frames, store, lsq,
    by rw [mge], by rw [mge], by rw [mge], by rw [mge], by rw [mge], by rw [mge], ?active, ?commitPending, ?staging,
    otg, ovc, resetHeld, powerOns, fun isSilence => ?silent, fun isBadRun => ?badRun⟩
  case active =>
    rw [cfs]
    split
    · exact active
    · rfl
  case commitPending =>
    rw [cfs]
    split
    · exact commitPending
    · rfl
  case staging =>
    rw [cfs]
    cases s.mge.session with
    | none => simp
    | some x => simpa using staging
  case silent =>
    rw [ctb, rlt, quietBank isSilence, isSilence]
    exact ⟨rfl, rfl⟩
  case badRun =>
    rw [ctb, rlt, badBank isBadRun, isBadRun]
    exact ⟨rfl, rfl⟩

/-! ### The device reset (R157) -/

theorem deviceReset_eq (running : s.resetHeld = false) (lane : Lane) : s.deviceReset lane = { State.cleared with
    ovc := { s.ovc with palettePending := [] }
    mge.resetCause := .device
    rlt.notices := [{ kind := .resetDone, detail := 2, frame := 0 }]
    rlt.lane := lane
    powerOns := s.powerOns, choices := s.choices, pending := s.pending } := by
  rw [State.deviceReset, State.pinValues, running]
  rfl

/-- Settles O5: at the end of the reply the two rows are one event; a link reset that finds the reply queued is the device
reset, and its values prevail. -/
theorem deviceResetAtEndOfReply : Obligations.DeviceResetAtEndOfReply := by
  refine ⟨fun s r sent running pending lane code done => ?atReply,
    fun s i cause m sent r running row pending queued code done lane => ?atLinkReset⟩
  case atReply =>
    have awaited : s.resetReplyOnLane = true := by
      simp [State.resetReplyOnLane, pending, lane, Reply.isDeviceReset, code, done]
    have busy : s.rlt.lane.isBusy = true := by rw [lane]; rfl
    have frees : s.freeLane = s.deviceReset .idle := if_pos awaited
    have reset : exec .deviceResetEvent s = .next (s.deviceReset .idle).settle :=
      congrArg Host.Outcome.next (event_acts running awaited)
    have free : exec .laneFree s = .next s.freeLane.settle := congrArg Host.Outcome.next (event_acts running busy)
    rw [free, frees, reset, deviceReset_eq running]
    exact ⟨rfl, rfl⟩
  case atLinkReset =>
    have found : s.resetReplyQueued = true := by
      simp only [State.resetReplyQueued, pending, Bool.true_and, List.any_eq_true]
      exact ⟨r, queued, by simp [Reply.isDeviceReset, code, done]⟩
    obtain ⟨bank, held, receiving, acts, silence, start, cut, -, -⟩ := exec_linkResetRow running row
    have receives : receiving = decide (i = .startSymbol) := by
      cases cause with
      | silence =>
        obtain ⟨rfl, -⟩ := row
        simp [silence rfl, found]
      | badRun =>
        obtain ⟨-, -, -, rfl | ⟨bytes, rfl, -⟩⟩ := row
        · simp [start rfl]
        · simp [cut bytes rfl]
    rw [acts, linkReset_of_queued (s := { s with ctb := bank, lrx.receiving := held }) found, ← receives,
      deviceReset_eq (s := { s with ctb := bank, lrx.receiving := held }) running]
    refine congrArg Host.Outcome.next ((State.settle_busy _ ?_).trans ?_)
    · show s.rlt.lane.isBusy = true
      rw [lane]
      rfl
    · rw [← lane]
      rfl

end Sys2Proof.Machine
end

section
/-! SUPPORT. Laws over all rows and over the passing of time: the queue of waiting commands (R145), and the events at which
the palette, the frame number and the active bank change (R123, R99, R138). -/

namespace Sys2Proof.Machine

variable {s t : State} {i : Instr} {c : Command}

/-! ### No row touches the queue of waiting commands -/

theorem EventMove.pending (move : EventMove s i t) : t.pending = s.pending := by
  cases move with
  | linkReset _ _ _ _ packet => rcases packet with rfl | rfl <;> simp
  | openArrival _ lrx _ tag => exact (State.openArrival_frame { s with lrx := lrx } tag).2.2.2.2.2.2.2.2.2
  | _ => simp

theorem CommandMove.pending (move : CommandMove c s i t) : t.pending = s.pending := by
  cases move with
  | openSession | takeOver => rfl
  | _ => simp

theorem powerOnReset_pending (s : State) : (powerOnReset s).pending = s.pending := by
  unfold powerOnReset
  split <;> rfl

theorem RowMove.pending (move : RowMove s i t) : t.pending = s.pending := by
  cases move with
  | powerOnReset => exact powerOnReset_pending s
  | pinReset | release | nothing | queued => rfl
  | deviceReset _ u _ move => cases move <;> rfl
  | event _ u _ move => exact move.pending
  | carriedOut _ c u r _ _ _ move =>
    rw [State.settle_pending, answer_pending]
    exact move.pending

/-- R158: while RESET_N is low no row acts but the resets and the release of RESET_N. -/
theorem exec_held (held : s.resetHeld = true) (notPowerOn : i ≠ .powerOnReset) (notPin : i ≠ .pinReset)
    (notRelease : i ≠ .pinResetRelease) : exec i s = .next s := by
  cases i with
  | powerOnReset => exact absurd rfl notPowerOn
  | pinReset => exact absurd rfl notPin
  | pinResetRelease => exact absurd rfl notRelease
  | _ => exact congrArg Host.Outcome.next (event_held held)

/-! ### One byte time (R9, R152, R159) -/

theorem step_of_empty (empty : s.pending = []) : step s = .next (tick s) := by
  rw [step, empty]

theorem tick_of_running (running : s.resetHeld = false) : tick s = tickIdle (tickSilence (tickLane s)) := by
  simp [tick, running]

theorem tickLane_of_busy {m : Message} {sent : Nat} (busy : s.rlt.lane = .busy m sent) :
    tickLane s = if sent + 1 < m.length then { s with rlt.lane := .busy m (sent + 1) } else laneFree s := by
  rw [tickLane, busy]

theorem tickSilence_of_running {k : Nat} (running : s.lrx.silence = some k) :
    tickSilence s = if k + 1 < 625 then { s with lrx.silence := some (k + 1) } else silenceTimerExpiry s := by
  rw [tickSilence, running]
  rfl

theorem tickIdle_of_open {x : Session} (opened : s.mge.session = some x) : tickIdle s
    = if x.idleLimit = 0 then s else if x.idleElapsed + 1 < 1250 * x.idleLimit.toNat then
        { s with mge.session := some { x with idleElapsed := x.idleElapsed + 1 } } else idleTimerExpiry s := by
  rw [tickIdle, opened]
  rfl

/-- Settles O2: the moves of a row say what it answers; a byte time is its three parts in their order. -/
theorem everyCommandAnswersANextState : Obligations.EveryCommandAnswersANextState := by
  refine ⟨fun i s => ?row, fun s => ?step, fun s held => ⟨fun i notPowerOn notPin notRelease =>
    exec_held held notPowerOn notPin notRelease, fun empty => ?heldTick⟩, fun s running empty => ?time⟩
  case row =>
    obtain ⟨t, answers, move⟩ := exec_move i s
    exact ⟨t, answers, move.pending⟩
  case step =>
    cases waiting : s.pending with
    | nil => exact ⟨tick s, step_of_empty waiting⟩
    | cons i rest =>
      obtain ⟨t, answers, -⟩ := exec_move i { s with pending := rest }
      exact ⟨t, by rw [step, waiting]; exact answers⟩
  case heldTick =>
    rw [step_of_empty empty, tick, if_pos held]
  case time =>
    refine ⟨tickLane s, tickSilence (tickLane s), tickIdle (tickSilence (tickLane s)), ?steps, fun idle => ?laneIdle,
      fun m sent busy => ⟨fun before => ?laneByte, fun last => ?laneFree⟩, fun stopped => ?silenceStopped,
      fun k timer => ⟨fun before => ?silenceAdvances, fun last => ?silenceExpires⟩, fun closed => ?idleClosed,
      fun x opened => ⟨fun unlimited => ?idleStopped, fun limited before => ?idleAdvances,
        fun limited last => ?idleExpires⟩⟩
    case steps => rw [step_of_empty empty, tick_of_running running]
    case laneIdle => rw [tickLane, idle]
    case laneByte => rw [tickLane_of_busy busy, if_pos before]
    case laneFree => rw [tickLane_of_busy busy, if_neg (Nat.not_lt.mpr last)]; rfl
    case silenceStopped => rw [tickSilence, stopped]
    case silenceAdvances => rw [tickSilence_of_running timer, if_pos before]
    case silenceExpires => rw [tickSilence_of_running timer, if_neg (Nat.not_lt.mpr last)]; rfl
    case idleClosed => rw [tickIdle, closed]
    case idleStopped => rw [tickIdle_of_open opened, if_pos unlimited]
    case idleAdvances => rw [tickIdle_of_open opened, if_neg limited, if_pos before]
    case idleExpires => rw [tickIdle_of_open opened, if_neg limited, if_neg (Nat.not_lt.mpr last)]; rfl

/-! ### What R123, R99 and R138 say of one row -/

/-- An output frame is in progress, running or held (R137). -/
def State.InFrame (s : State) : Prop :=
  s.otg.output = .active ∨ (s.otg.output = .held ∧ ∃ n, s.otg.holdPosition = .midFrame n)

/-- The palette, the frame number and the active bank change from `s` to `t` only as the row `i` may change them. -/
structure ChangesAt (s : State) (i : Instr) (t : State) : Prop where
  palette : s.otg.output = .active → t.otg.output = .active → t.ovc.palette ≠ s.ovc.palette → i = .activeDataEnd
  frameNumber : t.otg.frameNumber ≠ s.otg.frameNumber →
    t.otg.frameNumber = s.otg.frameNumber + 1 ∧ t.otg.output = .active
      ∧ (i = .waitLineEnd ∨ i = .frameEnd ∨ i = .startOutput ∨ i = .resumeOutput)
  bank : s.InFrame → t.cfs.active ≠ s.cfs.active →
    s.cfs.commitPending.isSome = true ∧ t.cfs.active = some s.cfs.staging
      ∧ (i = .frameEnd ∨ (i = .stopOutput ∧ s.otg.output = .held))

theorem ChangesAt.of_same (palette : t.ovc.palette = s.ovc.palette) (number : t.otg.frameNumber = s.otg.frameNumber)
    (bank : t.cfs.active = s.cfs.active) : ChangesAt s i t :=
  ⟨fun _ _ other => absurd palette other, fun other => absurd number other, fun _ other => absurd bank other⟩

/-- An operation after which the output is not ACTIVE may apply the palette. -/
theorem ChangesAt.of_inactive (inactive : t.otg.output ≠ .active) (number : t.otg.frameNumber = s.otg.frameNumber)
    (bank : t.cfs.active = s.cfs.active) : ChangesAt s i t :=
  ⟨fun _ active => absurd active inactive, fun other => absurd number other, fun _ other => absurd bank other⟩

/-- A frame start. -/
theorem ChangesAt.of_frameStart (row : i = .waitLineEnd ∨ i = .frameEnd ∨ i = .startOutput ∨ i = .resumeOutput)
    (palette : t.ovc.palette = s.ovc.palette)
    (begun : t.otg.frameNumber = s.otg.frameNumber + 1 ∧ t.otg.output = .active)
    (bank : t.cfs.active = s.cfs.active) : ChangesAt s i t :=
  ⟨fun _ _ other => absurd palette other, fun _ => ⟨begun.1, begun.2, row⟩, fun _ other => absurd bank other⟩

theorem applyPendingCommit_bank (s : State) : s.applyPendingCommit.cfs.active = s.cfs.active
    ∨ (s.cfs.commitPending.isSome = true ∧ s.applyPendingCommit.cfs.active = some s.cfs.staging) := by
  unfold State.applyPendingCommit
  cases pending : s.cfs.commitPending with
  | none => exact Or.inl rfl
  | some tag => exact Or.inr ⟨rfl, rfl⟩

theorem applyPendingCommit_twice (s : State) :
    s.applyPendingCommit.applyPendingCommit.cfs = s.applyPendingCommit.cfs := by
  cases pending : s.cfs.commitPending with
  | none =>
    have same : s.applyPendingCommit = s := by rw [State.applyPendingCommit, pending]
    rw [same, same]
  | some tag =>
    have cleared : s.applyPendingCommit.cfs.commitPending = none := by
      rw [State.applyPendingCommit, pending]
      rfl
    rw [State.applyPendingCommit.eq_def s.applyPendingCommit, cleared]

/-- The banks after the release and the application of a pending commit at a frame end (R96). -/
theorem frameEnd_bank (s : State) : s.release.applyPendingCommit.cfs.active = s.cfs.active
    ∨ (s.cfs.commitPending.isSome = true ∧ s.release.applyPendingCommit.cfs.active = some s.cfs.staging) := by
  have applied := applyPendingCommit_bank s.release
  rwa [s.release_frame.2.1] at applied

/-- A change of the bank where a pending commit is applied, by a row that may apply it. -/
theorem ChangesAt.of_commit (row : i = .frameEnd ∨ (i = .stopOutput ∧ s.otg.output = .held))
    (palette : t.otg.output = .active → t.ovc.palette = s.ovc.palette)
    (number : t.otg.frameNumber = s.otg.frameNumber ∨ (i = .frameEnd
      ∧ t.otg.frameNumber = s.otg.frameNumber + 1 ∧ t.otg.output = .active))
    (bank : t.cfs.active = s.cfs.active
      ∨ (s.cfs.commitPending.isSome = true ∧ t.cfs.active = some s.cfs.staging)) : ChangesAt s i t :=
  ⟨fun _ active other => absurd (palette active) other,
    fun other => by
      obtain ⟨frameEnd, number, active⟩ := number.resolve_left other
      exact ⟨number, active, Or.inr (Or.inl frameEnd)⟩,
    fun _ other => by
      obtain ⟨pending, applied⟩ := bank.resolve_left other
      exact ⟨pending, applied, row⟩⟩

theorem EventMove.changesAt (move : EventMove s i t) : ChangesAt s i t := by
  cases move with
  | linkReset _ _ _ _ packet => refine .of_same ?_ ?_ ?_ <;> rcases packet with rfl | rfl <;> simp
  | openArrival _ lrx _ tag =>
    obtain ⟨-, -, cfs, otg, ovc, -⟩ := State.openArrival_frame { s with lrx := lrx } tag
    exact .of_same (congrArg Ovc.palette ovc) (congrArg Otg.frameNumber otg) (congrArg Cfs.active cfs)
  | idleExpiry => exact .of_same rfl rfl (Cfs.atSessionClose_active _)
  | dataEnd =>
    exact ⟨fun _ _ _ => rfl, fun other => absurd rfl other, fun _ other => absurd rfl other⟩
  | lineHold => exact .of_inactive (by simp [Otg.heldAt]) (by simp [Otg.heldAt]) (by simp)
  | waitFree => exact .of_frameStart (Or.inl rfl) (by simp) (by simp [Otg.begun, State.countWaitLine]) (by simp)
  | waitReady => exact .of_frameStart (Or.inl rfl) (by simp) (by simp [Otg.begun, State.countWaitLine]) (by simp)
  | waitCoast => exact .of_frameStart (Or.inl rfl) (by simp) (by simp [Otg.begun, State.countWaitLine]) (by simp)
  | frameEndOff =>
    refine .of_commit (Or.inl rfl) (by simp [Otg.stopped]) (Or.inl (by simp [Otg.stopped])) ?_
    rw [State.raise_cfs, enterOff_cfs, applyPendingCommit_twice]
    exact frameEnd_bank s
  | frameEndHeld =>
    exact .of_commit (Or.inl rfl) (by simp [Otg.heldAt]) (Or.inl (by simp [Otg.heldAt])) (by simpa using frameEnd_bank s)
  | frameEndWait =>
    exact .of_commit (Or.inl rfl) (by simp [Otg.waiting]) (Or.inl (by simp [Otg.waiting]))
      (by simpa using frameEnd_bank s)
  | frameEndFree =>
    exact .of_commit (Or.inl rfl) (fun _ => by simp) (Or.inr ⟨rfl, by simp [Otg.begun]⟩) (by simpa using frameEnd_bank s)
  | waitNoBank | nextWaitLine => exact .of_same rfl rfl rfl
  | _ => exact .of_same (by simp) (by simp) (by simp)

theorem CommandMove.changesAt (move : CommandMove c s i t) : ChangesAt s i t := by
  cases move with
  | openSession => exact .of_same rfl rfl rfl
  | takeOver | closeSession => exact .of_same rfl rfl (Cfs.atSessionClose_active _)
  | commitNow valid noFrame =>
    exact ⟨fun _ _ other => absurd rfl other, fun other => absurd rfl other, fun inFrame => by
      simp [s.otg.frameInProgress_iff.mpr inFrame] at noFrame⟩
  | paletteNow item fits inactive =>
    exact ⟨fun active => absurd active inactive, fun other => absurd rfl other, fun _ other => absurd rfl other⟩
  | startWait | resumeWait => exact .of_inactive (by simp [Otg.waiting]) rfl rfl
  | startFree => exact .of_frameStart (Or.inr (Or.inr (Or.inl rfl))) (by simp) (by simp [Otg.begun]) (by simp)
  | resumeFree => exact .of_frameStart (Or.inr (Or.inr (Or.inr rfl))) (by simp) (by simp [Otg.begun]) (by simp)
  | stop inactive =>
    have bank : s.enterOff.cfs.active = s.cfs.active
        ∨ (s.cfs.commitPending.isSome = true ∧ s.enterOff.cfs.active = some s.cfs.staging) := by
      rw [enterOff_cfs]
      exact applyPendingCommit_bank s
    refine ⟨fun active => ?palette, fun other => absurd (by simp [Otg.stopped]) other, fun inFrame other => ?bank⟩
    case palette => simp [active] at inactive
    case bank =>
      obtain ⟨pending, applied⟩ := bank.resolve_left other
      refine ⟨pending, applied, Or.inr ⟨rfl, ?_⟩⟩
      rcases inFrame with active | ⟨held, -⟩
      · simp [active] at inactive
      · exact held
  | hold => exact .of_inactive (by simp [Otg.heldAt]) rfl rfl
  | _ => exact .of_same rfl rfl rfl

/-! ### Part-wide resets -/

/-- The blocks that a part-wide reset leaves at the values of `partWideReset`. -/
def ResetValues (t : State) : Prop :=
  t.frames = [] ∧ t.store = [] ∧ t.lsq = State.reset.lsq ∧ t.cfs = State.reset.cfs ∧ t.otg = State.reset.otg
    ∧ t.mge = { State.reset.mge with resetCause := t.mge.resetCause } ∧ t.ctb = State.reset.ctb

theorem powerOnReset_values (s : State) : ResetValues (powerOnReset s) := by
  unfold powerOnReset
  split <;> exact ⟨rfl, rfl, rfl, rfl, rfl, rfl, rfl⟩

theorem DeviceResetMove.values (move : DeviceResetMove s i t) : ResetValues t.settle := by
  cases move <;> exact ⟨rfl, rfl, rfl, rfl, rfl, rfl, rfl⟩

theorem resetReplyOnLane_iff : s.resetReplyOnLane = true ↔ s.mge.resetPending = true
    ∧ ∃ r : Reply, r.code = 0x06 ∧ r.status = .done ∧ ∃ sent, s.rlt.lane = .busy (.reply r) sent := by
  unfold State.resetReplyOnLane
  rw [Bool.and_eq_true]
  refine and_congr_right fun _ => ?_
  split
  next r sent lane => simp [lane, Reply.isDeviceReset]
  next n lost sent lane => simp [lane]
  next lane => simp [lane]

theorem resetReplyQueued_iff : s.resetReplyQueued = true ↔ s.mge.resetPending = true
    ∧ ∃ r : Reply, r.code = 0x06 ∧ r.status = .done ∧ r ∈ s.rlt.replies := by
  unfold State.resetReplyQueued
  simp only [Bool.and_eq_true, List.any_eq_true, Reply.isDeviceReset, beq_iff_eq]
  refine and_congr_right fun _ => ⟨?_, ?_⟩
  · rintro ⟨r, queued, code, done⟩
    exact ⟨r, code, done, queued⟩
  · rintro ⟨r, code, done, queued⟩
    exact ⟨r, queued, code, done⟩

/-- The device reset of a row is a part-wide reset, for the state with that row at the front of its queue. -/
theorem DeviceResetMove.partWideReset {u : State} {rest : List Instr} (running : s.resetHeld = false)
    (front : s.pending = i :: rest) (move : DeviceResetMove { s with pending := rest } i u) :
    partWideReset s u.settle := by
  refine ⟨Or.inr (Or.inr ⟨running, ?_⟩), move.values⟩
  have head : s.pending.head? = some i := by rw [front]; rfl
  cases move with
  | atReply row due =>
    obtain ⟨pending, r, code, done, onLane⟩ := resetReplyOnLane_iff.mp due
    refine ⟨pending, r, code, done, Or.inl ⟨onLane, Or.inr ?_⟩⟩
    rw [head]
    exact row.symm.imp (congrArg some) (congrArg some)
  | atLinkReset cause row due =>
    obtain ⟨pending, r, code, done, queued⟩ := resetReplyQueued_iff.mp due
    exact ⟨pending, r, code, done, Or.inr ⟨queued, Or.inr ⟨i, cause, head, row⟩⟩⟩

/-- What one row does to the palette, the frame number and the active bank. -/
theorem RowMove.changes {rest : List Instr} (front : s.pending = i :: rest)
    (move : RowMove { s with pending := rest } i t) : ChangesAt s i t ∨ partWideReset s t := by
  have head : s.pending.head? = some i := by rw [front]; rfl
  cases move with
  | powerOnReset => exact Or.inr ⟨Or.inl head, powerOnReset_values _⟩
  | pinReset => exact Or.inr ⟨Or.inr (Or.inl head), rfl, rfl, rfl, rfl, rfl, rfl, rfl⟩
  | release | nothing | queued => exact Or.inl (.of_same rfl rfl rfl)
  | deviceReset _ u running move => exact Or.inr (move.partWideReset running front)
  | event _ u _ move => exact Or.inl ⟨move.changesAt.palette, move.changesAt.frameNumber, move.changesAt.bank⟩
  | carriedOut _ c u r _ _ _ move =>
    obtain ⟨palette, number, bank⟩ := move.changesAt
    refine Or.inl ⟨?_, ?_, ?_⟩
    · rw [State.settle_otg, State.settle_ovc, answer_otg, answer_ovc]
      exact palette
    · rw [State.settle_otg, answer_otg]
      exact number
    · rw [State.settle_cfs, answer_cfs]
      exact bank

/-! ### One byte time -/

/-- `t` agrees with `s` on the palette, the generator and the active bank. -/
def State.Quiet (s t : State) : Prop :=
  t.ovc.palette = s.ovc.palette ∧ t.otg = s.otg ∧ t.cfs.active = s.cfs.active

theorem State.Quiet.refl (s : State) : s.Quiet s := ⟨rfl, rfl, rfl⟩

theorem State.Quiet.trans {u : State} (first : s.Quiet t) (second : t.Quiet u) : s.Quiet u :=
  ⟨second.1.trans first.1, second.2.1.trans first.2.1, second.2.2.trans first.2.2⟩

/-- After a device reset both timers are stopped and no session is open, so the rest of a byte time does nothing. -/
theorem tick_rest_of_stopped (noSilence : s.lrx.silence = none) (closed : s.mge.session = none) :
    tickIdle (tickSilence s) = s := by
  simp [tickSilence, noSilence, tickIdle, closed]

/-- What the arbiter leaves in the reply queue was there. -/
theorem mem_replies_of_arbitrate {r : Rlt} {x : Reply} (mem : x ∈ r.arbitrate.replies) : x ∈ r.replies := by
  rcases r.arbitrate_cases with ⟨-, -, same⟩ | ⟨y, rest, replies, sent⟩ | ⟨n, rest, notices, sent⟩
  · rwa [same] at mem
  · rw [sent, Rlt.sendReply_cons r y rest replies] at mem
    exact replies ▸ List.mem_cons_of_mem _ mem
  · rwa [sent, Rlt.sendNotice_cons r n rest notices] at mem

theorem mem_replies_of_settle {r : Rlt} {n : Nat} {x : Reply} (mem : x ∈ (r.settle n).replies) : x ∈ r.replies := by
  rcases r.settle_cases n with ⟨-, same⟩ | ⟨-, y, rest, replies, sent⟩ | ⟨-, m, rest, notices, sent⟩
  · rwa [same] at mem
  · rw [sent, Rlt.sendReply_cons r y rest replies] at mem
    exact replies ▸ List.mem_cons_of_mem _ mem
  · rwa [sent, Rlt.sendNotice_cons r m rest notices] at mem

/-- The lane's part of a byte time: the device reset at the end of its reply, or nothing but the lane and its queues. -/
theorem tickLane_cases (s : State) :
    (s.resetHeld = false ∧ s.resetReplyOnLane = true ∧ tickLane s = (s.deviceReset .idle).settle)
      ∨ (s.Quiet (tickLane s) ∧ (tickLane s).resetHeld = s.resetHeld ∧ (tickLane s).mge = s.mge
        ∧ ∀ x ∈ (tickLane s).rlt.replies, x ∈ s.rlt.replies) := by
  cases lane : s.rlt.lane with
  | idle =>
    have same : tickLane s = s := by rw [tickLane, lane]
    rw [same]
    exact Or.inr ⟨.refl s, rfl, rfl, fun _ mem => mem⟩
  | busy m sent =>
    rw [tickLane_of_busy lane]
    split
    next => exact Or.inr ⟨⟨rfl, rfl, rfl⟩, rfl, rfl, fun _ mem => mem⟩
    next =>
      rcases event_cases (·.rlt.lane.isBusy) State.freeLane s with same | ⟨running, -, acts⟩
      · rw [laneFree, same]
        exact Or.inr ⟨.refl s, rfl, rfl, fun _ mem => mem⟩
      · rw [laneFree, acts, State.freeLane]
        split
        next awaited => exact Or.inl ⟨running, awaited, rfl⟩
        next =>
          refine Or.inr ⟨⟨rfl, rfl, rfl⟩, rfl, rfl, fun x mem => ?_⟩
          exact mem_replies_of_arbitrate (r := { s.rlt with lane := .idle }) (mem_replies_of_settle mem)

/-- The silence timer's part: the device reset in a link reset, or neither the overlay nor the generator. -/
theorem tickSilence_cases (s : State) :
    (s.resetHeld = false ∧ s.resetReplyQueued = true ∧ tickSilence s = (s.deviceReset s.rlt.lane).settle)
      ∨ s.Quiet (tickSilence s) := by
  cases timer : s.lrx.silence with
  | none =>
    have same : tickSilence s = s := by rw [tickSilence, timer]
    rw [same]
    exact Or.inr (.refl s)
  | some k =>
    rw [tickSilence_of_running timer]
    split
    next => exact Or.inr ⟨rfl, rfl, rfl⟩
    next =>
      rcases event_cases (·.lrx.silence.isSome) (·.linkReset .silence) s with same | ⟨running, -, acts⟩
      · rw [silenceTimerExpiry, same]
        exact Or.inr (.refl s)
      · rw [silenceTimerExpiry, acts]
        cases queued : s.resetReplyQueued with
        | true =>
          rw [linkReset_of_queued queued]
          exact Or.inl ⟨running, rfl, rfl⟩
        | false =>
          rw [linkReset_of_not_queued queued]
          exact Or.inr ⟨by simp, by simp, by simp⟩

theorem tickIdle_quiet (s : State) : s.Quiet (tickIdle s) := by
  cases session : s.mge.session with
  | none =>
    have same : tickIdle s = s := by rw [tickIdle, session]
    rw [same]
    exact .refl s
  | some x =>
    rw [tickIdle_of_open session]
    split
    · exact .refl s
    · split
      · exact ⟨rfl, rfl, rfl⟩
      · rcases event_cases State.idleTimerRuns State.expireSession s with same | ⟨-, -, acts⟩
        · rw [idleTimerExpiry, same]
          exact .refl s
        · rw [idleTimerExpiry, acts, State.expireSession, session]
          exact ⟨rfl, rfl, Cfs.atSessionClose_active _⟩

/-- One byte time is a part-wide reset, or leaves the palette, the generator and the active bank alone. -/
theorem tick_changes (empty : s.pending = []) : s.Quiet (tick s) ∨ partWideReset s (tick s) := by
  cases held : s.resetHeld with
  | true =>
    rw [tick, if_pos held]
    exact Or.inl (.refl s)
  | false =>
    rw [tick_of_running held]
    rcases tickLane_cases s with ⟨-, awaited, reset⟩ | ⟨quiet, running, mge, replies⟩
    · rw [reset, tick_rest_of_stopped rfl rfl]
      obtain ⟨pending, r, code, done, onLane⟩ := resetReplyOnLane_iff.mp awaited
      exact Or.inr ⟨Or.inr (Or.inr ⟨held, pending, r, code, done, Or.inl ⟨onLane, Or.inl empty⟩⟩),
        (DeviceResetMove.atReply (s := s) .laneFree (Or.inr rfl) awaited).values⟩
    · rcases tickSilence_cases (tickLane s) with ⟨-, queued, reset⟩ | second
      · have stopped : tickIdle (tickSilence (tickLane s)) = tickSilence (tickLane s) := by
          rw [reset]
          rfl
        rw [stopped, reset]
        obtain ⟨pending, r, code, done, mem⟩ := resetReplyQueued_iff.mp queued
        rw [mge] at pending
        exact Or.inr ⟨Or.inr (Or.inr ⟨held, pending, r, code, done, Or.inr ⟨replies r mem, Or.inl empty⟩⟩),
          rfl, rfl, rfl, rfl, rfl, rfl, rfl⟩
      · exact Or.inl ((quiet.trans second).trans (tickIdle_quiet _))

/-- A part-wide reset turns the output off. -/
theorem output_of_partWideReset (reset : partWideReset s t) : t.otg.output = .off := by
  obtain ⟨-, -, -, -, -, otg, -⟩ := reset
  rw [otg]
  rfl

/-- Settles O33: by the row at the front of the queue, or by the parts of one byte time. -/
theorem changesOnlyAtTheirEvents : Obligations.ChangesOnlyAtTheirEvents := by
  intro s t stepped
  cases waiting : s.pending with
  | nil =>
    rw [step_of_empty waiting] at stepped
    cases stepped
    rcases tick_changes waiting with ⟨palette, otg, bank⟩ | reset
    · exact ⟨fun _ _ other => absurd palette other, fun other => absurd (congrArg Otg.frameNumber otg) other,
        fun _ other => absurd bank other⟩
    · exact ⟨fun _ active => by simp [output_of_partWideReset reset] at active, fun _ => Or.inr reset,
        fun _ _ => Or.inr reset⟩
  | cons i rest =>
    rw [step, waiting] at stepped
    rcases RowMove.changes waiting (rowMove_of_exec _ stepped) with ⟨palette, number, bank⟩ | reset
    · refine ⟨fun before after other => ?_, fun other => Or.inl ?_, fun inFrame other => Or.inl ?_⟩
      · exact congrArg some (palette before after other)
      · obtain ⟨rises, active, row⟩ := number other
        exact ⟨rises, active, by simpa using row⟩
      · obtain ⟨pending, applied, row⟩ := bank inFrame other
        exact ⟨pending, applied, by simpa using row⟩
    · exact ⟨fun _ active => by simp [output_of_partWideReset reset] at active, fun _ => Or.inr reset,
        fun _ _ => Or.inr reset⟩

end Sys2Proof.Machine
end

section
/-! SUPPORT. The Line Sequencer line by line (chapters 3 and 4): looking for a source number, obtaining it, dropping it, and
the walk of a line; then the numbers a thinned run uses (R49). -/

namespace Sys2Proof.Machine

variable {s : State} {t : Byte} {r : Raster} {e : Entry} {p : Nat} {l : LineRecord}

/-! ### Looking for a source number (R65, R66) -/

theorem consume_eq (s : State) (t : Byte) : s.consume t = { s with
    store := s.store.eraseP (·.tag == t)
    frames := s.frames.map fun x => if x.tag = t then { x with stored := x.stored - 1 } else x } := rfl

/-- Nothing is discarded when the oldest line of the tag, if there is one, is not stale. -/
theorem discardStale_of_fresh {e : Nat} (fresh : ∀ l, s.store.find? (·.tag == t) = some l → e ≤ l.number)
    (fuel : Nat) : State.discardStale t e fuel s = s := by
  cases fuel with
  | zero => rfl
  | succ fuel =>
    rw [State.discardStale]
    cases found : s.store.find? (·.tag == t) with
    | none => rfl
    | some l => exact if_neg (Nat.not_lt.mpr (fresh l found))

/-- A stale oldest line is consumed and counted, and the look is repeated; the number of lines in the store suffices. -/
theorem discardStale_of_stale {e : Nat} (found : s.store.find? (·.tag == t) = some l) (stale : l.number < e) :
    State.discardStale t e s.store.length s
      = State.discardStale t e ((s.consume t).count .staleLine).store.length ((s.consume t).count .staleLine) := by
  have listed : l ∈ s.store := List.mem_of_find?_eq_some found
  have tagged : (l.tag == t) = true := List.find?_some (p := fun x : LineRecord => x.tag == t) found
  have shorter : s.store.length = ((s.consume t).count .staleLine).store.length + 1 := by
    have erased := List.length_eraseP_of_mem (p := fun x : LineRecord => x.tag == t) listed tagged
    have positive := List.length_pos_of_mem listed
    rw [State.count_store, consume_eq]
    show s.store.length = (s.store.eraseP fun x => x.tag == t).length + 1
    omega
  conv => lhs; rw [shorter]
  rw [State.discardStale, found]
  exact if_pos stale

theorem fetchNumber_of_unbound (unbound : s.lsq.bound = none) : s.fetchNumber = (s, none) := by
  rw [State.fetchNumber, unbound]

section
variable (bound : s.lsq.bound = some t)
include bound

theorem fetchNumber_of_absent (absent : ∀ l ∈ s.store, l.tag ≠ t) : s.fetchNumber = (s, none) := by
  have missing : s.store.find? (·.tag == t) = none := by simpa using absent
  have kept := discardStale_of_fresh (s := s) (t := t) (e := s.lsq.expected) (by simp [missing]) s.store.length
  simp only [State.fetchNumber, bound, kept, missing]

theorem fetchNumber_of_later (found : s.store.find? (·.tag == t) = some l) (later : s.lsq.expected < l.number) :
    s.fetchNumber = (s, none) := by
  have kept := discardStale_of_fresh (s := s) (t := t) (e := s.lsq.expected)
    (by rw [found]; rintro _ ⟨⟩; exact later.le) s.store.length
  simp only [State.fetchNumber, bound, kept, found, if_neg later.ne']

theorem fetchNumber_of_here (found : s.store.find? (·.tag == t) = some l) (here : l.number = s.lsq.expected) :
    s.fetchNumber = (s.consume t, some l) := by
  have kept := discardStale_of_fresh (s := s) (t := t) (e := s.lsq.expected)
    (by rw [found]; rintro _ ⟨⟩; exact here.ge) s.store.length
  simp only [State.fetchNumber, bound, kept, found, if_pos here]

theorem fetchNumber_of_stale (found : s.store.find? (·.tag == t) = some l) (stale : l.number < s.lsq.expected) :
    s.fetchNumber = ((s.consume t).count .staleLine).fetchNumber := by
  have boundStill : ((s.consume t).count .staleLine).lsq.bound = some t := bound
  have same : ((s.consume t).count .staleLine).lsq.expected = s.lsq.expected := rfl
  simp only [State.fetchNumber, bound, boundStill, same, discardStale_of_stale found stale]

end

/-! ### Obtaining a source number (R67, R68, R70, R71) -/

theorem noteMissing_again (noticed : s.lsq.underrunNoticed = true) : s.noteMissing = s.count .missingLine := by
  rw [State.noteMissing, if_pos noticed, ← noticed]
  rfl

theorem noteMissing_first (first : s.lsq.underrunNoticed = false) : s.noteMissing
    = State.raise { s.count .missingLine with lsq.underrunNoticed := true } .underrun
        (BitVec.ofNat 16 s.lsq.expected) := by
  rw [State.noteMissing, if_neg (by simp [first])]
  rfl

theorem substitute_repeatLast (policy : r.missingPolicy = .repeatLast) : s.substitute r = s.lastShownBase := by
  simp [State.substitute, policy]

theorem obtain_of_missing {u : State} (missing : s.fetchNumber = (u, none)) :
    s.obtain r = (u.noteMissing, u.substitute r) := by
  simp [State.obtain, missing]

theorem obtain_of_shown {u : State} (taken : s.fetchNumber = (u, some l))
    (shows : l.damaged = false ∨ r.damagedPolicy = .showLine) :
    s.obtain r = ({ u with lsq.lastShown := some l.pixels }, .line l.pixels) := by
  rcases shows with sound | policy <;> simp [State.obtain, *]

theorem obtain_of_damaged {u : State} (taken : s.fetchNumber = (u, some l)) (damaged : l.damaged = true)
    (policy : r.damagedPolicy = .asMissing) : s.obtain r = (u.noteMissing, u.substitute r) := by
  simp [State.obtain, taken, damaged, policy]

/-- Settles O17: what the look for the number finds decides the outcome (Table 4-2). -/
theorem obtainOutcomes : Obligations.ObtainOutcomes := by
  intro s r
  refine ⟨noteMissing_again, noteMissing_first, fun policy => by simp [State.substitute, policy],
    fun policy empty => ?nothingShown, fun px policy shown => ?lastShown,
    fun unbound => obtain_of_missing (fetchNumber_of_unbound unbound), consume_eq s, fun t bound =>
      ⟨fun absent => obtain_of_missing (fetchNumber_of_absent bound absent), fun l found =>
        ⟨fun later => obtain_of_missing (fetchNumber_of_later bound found later),
          fun here shows => obtain_of_shown (fetchNumber_of_here bound found here) shows,
          fun here damaged policy => obtain_of_damaged (fetchNumber_of_here bound found here) damaged policy,
          fun stale => ?stale⟩⟩⟩
  case nothingShown => rw [substitute_repeatLast policy, State.lastShownBase, empty]
  case lastShown => rw [substitute_repeatLast policy, State.lastShownBase, shown]
  case stale => rw [State.obtain, fetchNumber_of_stale bound found stale, ← State.obtain]

/-! ### The action of a run on a line (R42 to R48) -/

/-- Obtaining a number leaves e and the cadence counter alone. -/
theorem obtain_counts (s : State) (r : Raster) :
    (s.obtain r).1.lsq.expected = s.lsq.expected ∧ (s.obtain r).1.lsq.cadence = s.lsq.cadence := by
  have fetched : s.fetchNumber.1.lsq = s.lsq := s.fetchNumber_frame.2.1
  have missing (u : State) : u.noteMissing.lsq.expected = u.lsq.expected ∧ u.noteMissing.lsq.cadence = u.lsq.cadence := by
    cases noticed : u.lsq.underrunNoticed with
    | true => rw [noteMissing_again noticed]; exact ⟨rfl, rfl⟩
    | false => rw [noteMissing_first noticed]; exact ⟨rfl, rfl⟩
  unfold State.obtain
  rw [← fetched]
  dsimp only
  split
  · exact missing _
  · split
    · exact missing _
    · exact ⟨rfl, rfl⟩

theorem showNumber_eq (s : State) (r : Raster) :
    s.showNumber r = ({ (s.obtain r).1 with lsq.expected := s.lsq.expected + 1 }, (s.obtain r).2) := by
  rw [State.showNumber, State.advanceExpected, (obtain_counts s r).1]

theorem showThin_first (s : State) (r : Raster) (e : Entry) : s.showThin r e 0 = (s.setCadence e).showThin r e 1 := by
  rw [State.showThin, State.showThin, if_pos rfl, if_neg Nat.one_ne_zero]

/-- A SHOW_THIN line that is not preceded by a drop. -/
theorem showThin_kept (later : p ≠ 0) (before : s.lsq.cadence ≠ e.thinDivisor - 1) : s.showThin r e p
    = ({ (s.obtain r).1 with lsq := { (s.obtain r).1.lsq with
        expected := s.lsq.expected + 1, cadence := s.lsq.cadence + 1 } }, (s.obtain r).2) := by
  rw [State.showThin, if_neg later, if_neg before, showNumber_eq]
  dsimp only
  rw [(obtain_counts s r).2]

theorem dropNumber_counts (s : State) :
    s.dropNumber.lsq.expected = s.lsq.expected + 1 ∧ s.dropNumber.lsq.cadence = 0 := by
  have fetched : s.fetchNumber.1.lsq = s.lsq := s.fetchNumber_frame.2.1
  refine ⟨?_, rfl⟩
  show s.fetchNumber.1.lsq.expected + 1 = _
  rw [fetched]

/-- A SHOW_THIN line that a drop precedes. -/
theorem showThin_dropped (later : p ≠ 0) (full : s.lsq.cadence = e.thinDivisor - 1) : s.showThin r e p
    = ({ (s.dropNumber.obtain r).1 with lsq := { (s.dropNumber.obtain r).1.lsq with
        expected := s.lsq.expected + 2, cadence := 1 } }, (s.dropNumber.obtain r).2) := by
  rw [State.showThin, if_neg later, if_pos full, showNumber_eq]
  dsimp only
  rw [(obtain_counts s.dropNumber r).2, (dropNumber_counts s).1, (dropNumber_counts s).2]

/-- A drop by what the look for the number finds (R44). -/
theorem dropNumber_of_fetch {u : State} {found : Option LineRecord} (fetched : s.fetchNumber = (u, found))
    (same : u.lsq = s.lsq) :
    s.dropNumber = { u with lsq := { s.lsq with expected := s.lsq.expected + 1, cadence := 0 } } := by
  rw [State.dropNumber, fetched, State.advanceExpected]
  dsimp only
  rw [same]

/-- Settles O18: the actions of the table of R41, then the drop of R44. -/
theorem actionsOfALine : Obligations.ActionsOfALine := by
  refine ⟨fun s r e p => ⟨fun fill => ?fill, fun repeats => ?repeats, fun shows => ?shows, fun thin first => ?first,
    fun zero => ?zero, fun seeded => ?seeded, fun thin later before => ?kept, fun thin later full => ?dropped⟩, ?drop⟩
  case fill => simp [State.walkLine, fill]
  case repeats => simp only [State.walkLine, repeats]; rfl
  case shows => simp only [State.walkLine, shows, showNumber_eq]
  case first => simp only [State.walkLine, thin, first, showThin_first]
  case zero => simp [State.setCadence, zero]
  case seeded => simp [State.setCadence, seeded]
  case kept => simp only [State.walkLine, thin, showThin_kept later before]
  case dropped => simp only [State.walkLine, thin, showThin_dropped later full]
  case drop =>
    rintro s _ rfl
    refine ⟨fun unbound => dropNumber_of_fetch (fetchNumber_of_unbound unbound) rfl, fun t bound =>
      ⟨fun absent => dropNumber_of_fetch (fetchNumber_of_absent bound absent) rfl, fun l found =>
        ⟨fun later => dropNumber_of_fetch (fetchNumber_of_later bound found later) rfl,
          fun here => dropNumber_of_fetch (fetchNumber_of_here bound found here) rfl, fun stale => ?stale⟩⟩⟩
    rw [State.dropNumber, fetchNumber_of_stale bound found stale, ← State.dropNumber]

/-! ### The numbers a thinned run uses (R49) -/

/-- Dividing the next number: the remainder wraps exactly where the quotient rises. -/
theorem succ_div_mod (j m : Nat) (positive : 1 ≤ m) :
    (j % m = m - 1 → (j + 1) / m = j / m + 1 ∧ (j + 1) % m = 0)
      ∧ (j % m ≠ m - 1 → (j + 1) / m = j / m ∧ (j + 1) % m = j % m + 1) := by
  have parts := Nat.div_add_mod j m
  have below := Nat.mod_lt j positive
  constructor
  · intro last
    have whole : j + 1 = m * (j / m + 1) := by
      rw [Nat.mul_succ]
      omega
    rw [whole, Nat.mul_div_cancel_left _ positive, Nat.mul_mod_right]
    exact ⟨rfl, rfl⟩
  · intro inner
    have small : j % m + 1 < m := by omega
    have split : j + 1 = m * (j / m) + (j % m + 1) := by omega
    refine ⟨?_, ?_⟩
    · conv => lhs; rw [split]
      rw [Nat.mul_add_div positive, Nat.div_eq_of_lt small, Nat.add_zero]
    · conv => lhs; rw [split]
      rw [Nat.mul_add_mod, Nat.mod_eq_of_lt small]

/-- After `n + 1` lines of a run with phase ZERO: the numbers used, and the lines since the last drop. -/
theorem thinLines_counts (zero : e.phaseMode = .zero) (divides : 2 ≤ e.thinDivisor) (n : Nat) :
    (thinLines r e s (n + 1)).lsq.expected = s.lsq.expected + (n + 1) + n / (e.thinDivisor - 1)
      ∧ (thinLines r e s (n + 1)).lsq.cadence = n % (e.thinDivisor - 1) + 1 := by
  induction n with
  | zero =>
    have reset : s.setCadence e = { s with lsq.cadence := 0 } := by simp [State.setCadence, zero]
    have before : (s.setCadence e).lsq.cadence ≠ e.thinDivisor - 1 := by
      rw [reset]
      show 0 ≠ _
      omega
    rw [thinLines, thinLines, showThin_first, showThin_kept Nat.one_ne_zero before, reset]
    simp
  | succ n ih =>
    obtain ⟨expected, cadence⟩ := ih
    obtain ⟨wraps, rises⟩ := succ_div_mod n (e.thinDivisor - 1) (by omega)
    rw [thinLines]
    by_cases full : (thinLines r e s (n + 1)).lsq.cadence = e.thinDivisor - 1
    case pos =>
      obtain ⟨quotient, remainder⟩ := wraps (by omega)
      rw [showThin_dropped (Nat.succ_ne_zero n) full, quotient, remainder, expected]
      refine ⟨?_, rfl⟩
      dsimp only
      omega
    case neg =>
      obtain ⟨quotient, remainder⟩ := rises (by omega)
      rw [showThin_kept (Nat.succ_ne_zero n) full, quotient, remainder, expected, cadence]
      refine ⟨?_, rfl⟩
      dsimp only
      omega

/-- Settles O16. -/
theorem thinningUsesFixedNumbers : Obligations.ThinningUsesFixedNumbers := by
  intro s r e n zero divides positive
  obtain ⟨n, rfl⟩ := Nat.exists_eq_add_of_le' positive
  exact (thinLines_counts zero divides n).1

end Sys2Proof.Machine
end

section
/-! SUPPORT. The timing events of the Output Timing Generator (R82 to R96), what a line start reads (R54 to R56, R106, R112),
and the panel pins (Table 5-3). -/

namespace Sys2Proof.Machine

variable {s t : State} {b : Bank} {e : Entry} {p a : Nat} {l : Line}

/-! ### What a line start reads -/

theorem level_eq (polarity : Polarity) (asserted : Bool) :
    polarity.level asserted = (asserted ^^ decide (polarity = .activeLow)) := by
  cases polarity <;> simp [Polarity.level]

theorem level_false (polarity : Polarity) : polarity.level false = decide (polarity = .activeLow) := by
  cases polarity <;> rfl

theorem framePulseOn_eq (r : Raster) (n : Nat) :
    r.framePulseOn n = decide (r.framePulseStart ≤ n ∧ n < r.framePulseStart + r.framePulseWidth) := by
  rw [Raster.framePulseOn, Bool.decide_and]

theorem inActiveArea_iff (r : Raster) (n : Nat) :
    r.inActiveArea n = true ↔ r.vStart ≤ n ∧ n < r.vStart + r.height := by
  simp [Raster.inActiveArea]

theorem patternRegime_of_defined {slot : Nat} {invert : Bool} {pattern : Pattern}
    (defined : b.patterns.toList.getD slot none = some pattern) :
    b.patternRegime slot invert = .pattern pattern.kind pattern.bits invert := by
  have defined : b.pattern? slot = some pattern := defined
  rw [Bank.patternRegime, defined]

theorem blankRegime_of_quiet (quiet : b.raster.blankClock = none) : b.blankRegime = .level b.raster.clockIdle := by
  rw [Bank.blankRegime, quiet]

theorem blankRegime_of_pattern {slot : Nat} {pattern : Pattern} (named : b.raster.blankClock = some slot)
    (defined : b.patterns.toList.getD slot none = some pattern) :
    b.blankRegime = .pattern pattern.kind pattern.bits false := by
  rw [Bank.blankRegime, named]
  exact patternRegime_of_defined defined

/-! ### LINE_START (R82) -/

theorem exec_lineStart (running : s.resetHeld = false) (due : s.otg.phase = .lineStartDue)
    (output : s.otg.output = .active ∨ s.otg.output = .waitFrame) :
    exec .lineStart s = .next s.lineStart.settle := by
  have isDue : s.lineStartDue = true := by simpa [State.lineStartDue, due] using output
  exact congrArg Host.Outcome.next (event_acts running isDue)

theorem lineStart_of_wait (active : s.cfs.active = some b) (waiting : s.otg.output = .waitFrame) :
    s.lineStart = s.startWaitLine b := by
  rw [State.lineStart, active, waiting]

theorem lineStart_of_active (active : s.cfs.active = some b) (output : s.otg.output = .active) :
    s.lineStart = s.startFrameLine b := by
  rw [State.lineStart, active, output]

theorem startFrameLine_of_outside (outside : s.otg.linePosition < b.raster.vStart
    ∨ b.raster.vStart + b.raster.height ≤ s.otg.linePosition) : s.startFrameLine b = s.startBlankLine b := by
  refine if_neg ?_
  rw [inActiveArea_iff]
  omega

theorem startFrameLine_of_run (position : s.otg.linePosition = b.raster.vStart + a) (inside : a < b.raster.height)
    (run : findRun b.entriesInForce a = some (e, p)) : s.startFrameLine b = s.startActiveLine b a e p := by
  have area : b.raster.inActiveArea s.otg.linePosition = true := (inActiveArea_iff _ _).mpr (by omega)
  have offset : s.otg.linePosition - b.raster.vStart = a := by omega
  unfold State.startFrameLine
  dsimp only
  rw [if_pos area, offset, run]

/-- Settles O19: the fields are the raster's, the pulse that of the line, the clock the blank-line clock. -/
theorem lineStartOutsideTheActiveArea : Obligations.LineStartOutsideTheActiveArea := by
  intro s b running due active
  refine ⟨b.blankRegime, blankRegime_of_quiet, fun slot pattern => blankRegime_of_pattern, fun waiting => ?wait,
    fun output outside => ?blank⟩
  case wait =>
    rw [exec_lineStart running due (Or.inr waiting), lineStart_of_wait active waiting, ← level_false]
    rfl
  case blank =>
    rw [exec_lineStart running due (Or.inl output), lineStart_of_active active output,
      startFrameLine_of_outside outside, ← framePulseOn_eq, ← level_eq]
    rfl

theorem length_gatherRow (s : State) (w : Window) (a : Nat) :
    (s.gatherRow w a).length = (w.width * w.depth + 7) / 8 := by
  simp [State.gatherRow, bytesForBits]

theorem byteAt_gatherRow {w : Window} {i : Nat} (inside : i < (s.gatherRow w a).length) :
    byteAt (s.gatherRow w a) i = s.glyphByte (w.glyphBase + (a - w.y) * w.stride + i) := by
  rw [byteAt, List.getD_eq_getElem _ _ inside]
  simp [State.gatherRow]

theorem gather_windows (s : State) (windows : List Window) (mask : Byte) (a : Nat) :
    (s.gather windows mask a).map (·.window)
      = windows.filter fun w => mask.getLsbD w.id && decide (w.y ≤ a) && decide (a < w.y + w.height) := by
  rw [State.gather, List.map_map]
  exact List.map_id _

/-- What the Overlay Compositor gathers at the line start of active line `a` (R112). -/
def State.pictureOf (s : State) (b : Bank) (a : Nat) (e : Entry) (p : Nat) : Picture where
  base := (s.walkLine b.raster e p).2
  background := b.raster.background
  candidates := s.gather b.windows e.windowMask a

/-- The line in progress after that line start (R85, R86, R106). -/
def State.activeLineOf (s : State) (b : Bank) (a : Nat) (e : Entry) (p : Nat) : Line :=
  b.lineOf (.active (s.pictureOf b a e p)) (b.raster.framePulseOn s.otg.linePosition)
    (b.patternRegime (e.patternAt p) e.invert)

theorem startActiveLine_eq (s : State) (b : Bank) (a : Nat) (e : Entry) (p : Nat) :
    s.startActiveLine b a e p
      = { (s.walkLine b.raster e p).1 with otg.phase := .inLine (s.activeLineOf b a e p) } := rfl

/-- Settles O20: the walk, the raster's fields, the clock of the run and the gathered windows. -/
theorem lineStartOfAnActiveLine : Obligations.LineStartOfAnActiveLine := by
  intro s b e p a running due output active position inside run
  refine ⟨s.activeLineOf b a e p, s.pictureOf b a e p, ?acts, rfl, rfl, rfl, rfl, rfl, rfl, rfl, rfl, ?pulse, fun pattern defined => ?clock, rfl, rfl,
    gather_windows s b.windows e.windowMask a, fun k gathered => ?row⟩
  case acts =>
    rw [exec_lineStart running due (Or.inl output), lineStart_of_active active output,
      startFrameLine_of_run position inside run, startActiveLine_eq]
  case pulse =>
    rw [← framePulseOn_eq, ← level_eq]
    rfl
  case clock => exact patternRegime_of_defined defined
  case row =>
    obtain ⟨w, -, rfl⟩ := List.mem_map.mp gathered
    exact ⟨length_gatherRow s w a, fun i within => byteAt_gatherRow within⟩

/-! ### ACTIVE_DATA_END and LINE_END (R83, R94, R123) -/

theorem exec_activeDataEnd (running : s.resetHeld = false) (output : s.otg.output = .active)
    (inLine : s.otg.phase = .inLine l) (before : l.dataEnded = false) :
    exec .activeDataEnd s = .next (State.settle { s with
      ovc := s.ovc.applyPalette, otg.phase := .inLine { l with dataEnded := true } }) := by
  have due : s.dataEndDue = true := by simp [State.dataEndDue, output, inLine, before]
  have acts : s.activeDataEnd = { s with
      ovc := s.ovc.applyPalette, otg.phase := .inLine { l with dataEnded := true } } := by
    rw [State.activeDataEnd, inLine]
  exact congrArg Host.Outcome.next ((event_acts running due).trans (congrArg State.settle acts))

theorem exec_lineEnd (running : s.resetHeld = false) (output : s.otg.output = .active)
    (inLine : s.otg.phase = .inLine l) (ended : l.dataEnded = true) :
    exec .lineEnd s = .next s.lineEnd.settle := by
  have due : s.lineEndDue = true := by simp [State.lineEndDue, output, inLine, ended]
  exact congrArg Host.Outcome.next (event_acts running due)

theorem frameTotal_of_bank (active : s.cfs.active = some b) : s.frameTotal = b.raster.frameTotal := by
  rw [State.frameTotal, active]

theorem lineEnd_of_last (last : s.frameTotal ≤ s.otg.linePosition + 1) :
    s.lineEnd = { s with otg.phase := .frameEndDue } := if_pos last

theorem lineEnd_of_hold (before : s.otg.linePosition + 1 < s.frameTotal) (hold : s.otg.holdPending = some .line) :
    s.lineEnd = s.enterHeld .line (.midFrame (s.otg.linePosition + 1)) :=
  (if_neg (Nat.not_le.mpr before)).trans (if_pos hold)

theorem lineEnd_of_next (before : s.otg.linePosition + 1 < s.frameTotal) (noHold : s.otg.holdPending ≠ some .line) :
    s.lineEnd
      = { s with otg := { s.otg with linePosition := s.otg.linePosition + 1, phase := .lineStartDue } } :=
  (if_neg (Nat.not_le.mpr before)).trans (if_neg noHold)

/-- Settles O21: the data end, the palette it leaves, and the three outcomes of a line end. -/
theorem dataEndAndLineEnd : Obligations.DataEndAndLineEnd := by
  refine ⟨fun s l running output inLine before => exec_activeDataEnd running output inLine before,
    fun s t => ⟨rfl, fun applied power => ⟨fun k outside => ?other, fun older item younger i split inside later => ?named⟩⟩,
    fun s l b running output inLine ended active => ?lineEnd⟩
  case other =>
    refine paletteColour_of_same ?_ power
    rw [applied]
    exact applyItems_outside _ _ _ outside
  case named =>
    refine paletteColour_of_read? ?_
    rw [applied, Ovc.applyPalette, split]
    exact applyItems_youngest older item younger _ i inside later
  case lineEnd =>
    rw [exec_lineEnd running output inLine ended, ← frameTotal_of_bank active]
    refine ⟨fun last => ?last, fun before hold => ?hold, fun before noHold => ?next⟩
    case last => rw [lineEnd_of_last last.ge]
    case hold => rw [lineEnd_of_hold before hold]; rfl
    case next => rw [lineEnd_of_next before noHold]

/-! ### WAIT_LINE_END (R84, R62) -/

theorem exec_waitLineEnd (running : s.resetHeld = false) (waiting : s.otg.output = .waitFrame)
    (inLine : s.otg.phase = .inLine l) : exec .waitLineEnd s = .next s.waitLineEnd.settle := by
  have due : s.waitLineEndDue = true := by simp [State.waitLineEndDue, waiting, inLine]
  exact congrArg Host.Outcome.next (event_acts running due)

section
variable (active : s.cfs.active = some b)
include active

theorem waitLineEnd_of_free (free : b.raster.syncMode = .free) : s.waitLineEnd = s.countWaitLine.frameStartFree := by
  simp only [State.waitLineEnd, active, free]

theorem waitLineEnd_of_ready {r : FrameRecord} (locked : b.raster.syncMode = .locked)
    (ready : s.frames.find? (·.ready b.raster.prime) = some r) :
    s.waitLineEnd = s.countWaitLine.frameStartReady b.raster.prime r.tag := by
  simp only [State.waitLineEnd, active, locked, ready]

theorem waitLineEnd_of_noneReady (locked : b.raster.syncMode = .locked)
    (noneReady : s.frames.find? (·.ready b.raster.prime) = none) :
    s.waitLineEnd = if b.raster.coastLimit ≤ s.countWaitLine.otg.waitCount then s.countWaitLine.frameStartCoast
      else { s.countWaitLine with otg.phase := .lineStartDue } := by
  simp only [State.waitLineEnd, active, locked, noneReady]

end

/-- A record that is bound, or still receiving with too few lines, is not ready (R23). -/
theorem ready_eq_false {r : FrameRecord} {prime : Nat}
    (unready : r.bound = true ∨ (r.state = .openReceiving ∧ r.stored < prime)) : r.ready prime = false := by
  rcases unready with bound | ⟨receiving, few⟩
  · simp [FrameRecord.ready, bound]
  · simp [FrameRecord.ready, receiving, few]

/-- Settles O22: the decision of R84 by the sync mode and the oldest ready record. -/
theorem waitLineEndDecision : Obligations.WaitLineEndDecision := by
  rintro s _ l b running waiting inLine active rfl
  rw [exec_waitLineEnd running waiting inLine]
  refine ⟨fun free => ?free, fun r locked ready => ?ready, fun locked unready => ?noneReady⟩
  case free => rw [waitLineEnd_of_free active free]; rfl
  case ready => rw [waitLineEnd_of_ready active locked ready]; rfl
  case noneReady =>
    have noneReady : s.frames.find? (·.ready b.raster.prime) = none :=
      List.find?_eq_none.mpr fun r listed => by simp [ready_eq_false (unready r listed)]
    rw [waitLineEnd_of_noneReady active locked noneReady]
    exact ⟨fun coasts => congrArg (fun u => Host.Outcome.next (State.settle u)) (if_pos coasts),
      fun waits => congrArg (fun u => Host.Outcome.next (State.settle u)) (if_neg (Nat.not_le.mpr waits))⟩

/-! ### FRAME_END and the entry to OFF (R96, R98) -/

theorem exec_frameEnd (running : s.resetHeld = false) (output : s.otg.output = .active)
    (due : s.otg.phase = .frameEndDue) : exec .frameEnd s = .next s.frameEnd.settle := by
  have isDue : s.frameEndDue = true := by simp [State.frameEndDue, output, due]
  exact congrArg Host.Outcome.next (event_acts running isDue)

theorem frameEnd_of_stop (stop : s.otg.stopPending = true) :
    s.frameEnd = s.release.applyPendingCommit.enterOff.raise .outputStopped 0 := if_pos stop

theorem frameEnd_of_hold {k : HoldKind} (noStop : s.otg.stopPending = false) (hold : s.otg.holdPending = some k) :
    s.frameEnd = s.release.applyPendingCommit.enterHeld k .boundary := by
  simp [State.frameEnd, noStop, hold]

theorem frameEnd_of_locked (noStop : s.otg.stopPending = false) (noHold : s.otg.holdPending = none)
    (locked : s.release.applyPendingCommit.syncMode = .locked) :
    s.frameEnd = s.release.applyPendingCommit.enterWaitFrame := by
  simp [State.frameEnd, noStop, noHold, locked]

theorem frameEnd_of_free (noStop : s.otg.stopPending = false) (noHold : s.otg.holdPending = none)
    (free : s.release.applyPendingCommit.syncMode = .free) :
    s.frameEnd = s.release.applyPendingCommit.frameStartFree := by
  simp [State.frameEnd, noStop, noHold, free]

/-- Settles O24: the steps of R96 by the requests that are pending. -/
theorem frameEndSteps : Obligations.FrameEndSteps := by
  rintro s _ running output due rfl
  rw [exec_frameEnd running output due]
  refine ⟨fun stop => by rw [frameEnd_of_stop stop], fun k detail noStop hold kind => ?hold,
    fun b active => by rw [State.syncMode, active], fun noStop noHold locked => ?locked,
    fun noStop noHold free => by rw [frameEnd_of_free noStop noHold free]⟩
  case hold =>
    have number : BitVec.ofNat 16 k.number = detail := by rcases kind with ⟨rfl, rfl⟩ | ⟨rfl, rfl⟩ <;> rfl
    rw [frameEnd_of_hold noStop hold, State.enterHeld, number]
  case locked =>
    rw [frameEnd_of_locked noStop noHold locked]
    rfl

theorem release_of_unbound (unbound : s.lsq.bound = none) : s.release = s := by
  rw [State.release, unbound]

theorem release_of_bound {tag : Byte} (bound : s.lsq.bound = some tag) : s.release = State.countTimes { s with
    lsq.bound := none
    frames := s.frames.filter (fun r => !(r.tag == tag))
    store := s.store.filter (fun l => !(l.tag == tag)) } .excessLine (s.store.filter (·.tag == tag)).length := by
  rw [State.release, bound]
  rfl

/-- The application of a pending commit changes the banks and the notices, whatever the commit. -/
theorem applyPendingCommit_eq (s : State) :
    ∃ cfs rlt, s.applyPendingCommit = { s with cfs := cfs, rlt := rlt } := by
  cases pending : s.cfs.commitPending with
  | none => exact ⟨s.cfs, s.rlt, by rw [State.applyPendingCommit, pending]⟩
  | some tag => exact ⟨_, _, by rw [State.applyPendingCommit, pending]; rfl⟩

/-- R98: the parts of the entry to OFF, each on the blocks of its own. -/
theorem enterOff_eq (s : State) : s.enterOff = { s with
    frames := []
    store := []
    lsq := { s.lsq with
      bound := none, expected := 0, lastShown := none, underrunNoticed := false, coastingNoticed := false }
    cfs := s.applyPendingCommit.cfs
    otg := s.otg.stopped
    ovc := s.ovc.applyPalette
    rlt := s.applyPendingCommit.rlt
    ctb := s.release.ctb } := by
  obtain ⟨cfs, rlt, applied⟩ := applyPendingCommit_eq s
  rw [State.enterOff, applied]
  cases bound : s.lsq.bound with
  | none =>
    rw [release_of_unbound (s := { s with cfs := cfs, rlt := rlt }) bound, release_of_unbound bound]
    rfl
  | some tag =>
    rw [release_of_bound (s := { s with cfs := cfs, rlt := rlt }) bound, release_of_bound bound]
    rfl

/-- Settles O25. -/
theorem releaseCommitAndEntryToOff : Obligations.ReleaseCommitAndEntryToOff := by
  intro s
  refine ⟨release_of_unbound, fun tag => release_of_bound, fun tag pending => ?applies, fun none => ?nothing,
    enterOff_eq s⟩
  case applies => rw [State.applyPendingCommit, pending]; rfl
  case nothing => rw [State.applyPendingCommit, none]

/-! ### The panel pins (Table 5-3) -/

theorem pins_of_held (held : s.resetHeld = true) (p : Nat) (h : Half) : s.pins p h = Pins.low := if_pos held

theorem pins_of_quiet (running : s.resetHeld = false) (quiet : ∀ l, s.otg.phase ≠ .inLine l) (p : Nat) (h : Half) :
    s.pins p h = s.cfs.idlePins := by
  rw [State.pins, if_neg (by simp [running])]
  split
  next l inLine => exact absurd inLine (quiet l)
  all_goals rfl

theorem pins_of_line (running : s.resetHeld = false) (inLine : s.otg.phase = .inLine l) (p : Nat) (h : Half) :
    s.pins p h = { pd := l.pixelData s p, pclk := l.clock.levelAt p h, lp := l.linePulse p,
                   fp := l.framePulse, dv := l.dataValid p } := by
  rw [State.pins, if_neg (by simp [running]), inLine]

theorem idlePins_of_empty {f : Cfs} (empty : f.active = none) : f.idlePins = Pins.low := by
  rw [Cfs.idlePins, empty]

theorem idlePins_of_bank {f : Cfs} (active : f.active = some b) : f.idlePins
    = { pd := 0, pclk := b.raster.clockIdle, lp := decide (b.raster.linePolarity = .activeLow),
        fp := decide (b.raster.framePolarity = .activeLow), dv := false } := by
  simp only [Cfs.idlePins, active, level_false]

theorem idlePins_dark (f : Cfs) : f.idlePins.dv = false ∧ f.idlePins.pd = 0 := by
  cases active : f.active with
  | none => rw [idlePins_of_empty active]; exact ⟨rfl, rfl⟩
  | some b => rw [idlePins_of_bank active]; exact ⟨rfl, rfl⟩

theorem dataValid_iff (l : Line) (p : Nat) :
    l.dataValid p = true ↔ ∃ pic, l.kind = .active pic ∧ l.hStart ≤ p ∧ p < l.hStart + l.width := by
  unfold Line.dataValid
  cases l.kind <;> simp

/-- R103, R104 in one: a LEVEL bit holds for both halves, a GATE bit for the first. -/
theorem bitLevel_eq (k : PatternKind) (v : Bool) (h : Half) :
    k.bitLevel v h = (v && decide (k = .level ∨ h = .first)) := by
  cases k <;> cases h <;> simp

theorem pixelData_of_invalid (invalid : l.dataValid p = false) : l.pixelData s p = 0 := by
  unfold Line.pixelData
  cases l.kind <;> simp [invalid]

theorem pixelData_of_valid {pic : Picture} (kind : l.kind = .active pic) (valid : l.dataValid p = true) :
    l.pixelData s p = pic.pixel s (p - l.hStart) := by
  rw [Line.pixelData, kind]
  exact if_pos valid

/-- Data-valid is high on the active pixels of an active line alone, and PD is dark elsewhere (R87). -/
theorem pins_dataValid (s : State) (p : Nat) (h : Half) :
    ((s.pins p h).dv = false → (s.pins p h).pd = 0)
      ∧ ((s.pins p h).dv = true ↔ s.resetHeld = false ∧ ∃ l pic, s.otg.phase = .inLine l ∧ l.kind = .active pic
        ∧ l.hStart ≤ p ∧ p < l.hStart + l.width) := by
  cases held : s.resetHeld with
  | true =>
    rw [pins_of_held held]
    exact ⟨fun _ => rfl, by simp [Pins.low]⟩
  | false =>
    by_cases line : ∃ l, s.otg.phase = .inLine l
    · obtain ⟨l, inLine⟩ := line
      rw [pins_of_line held inLine]
      refine ⟨pixelData_of_invalid, ?_⟩
      rw [dataValid_iff]
      constructor
      · rintro ⟨pic, kind, from', to'⟩
        exact ⟨rfl, l, pic, inLine, kind, from', to'⟩
      · rintro ⟨-, m, pic, same, kind, from', to'⟩
        rw [inLine] at same
        cases same
        exact ⟨pic, kind, from', to'⟩
    · have quiet : ∀ l, s.otg.phase ≠ .inLine l := not_exists.mp line
      rw [pins_of_quiet held quiet]
      obtain ⟨invalid, dark⟩ := idlePins_dark s.cfs
      refine ⟨fun _ => dark, ?_⟩
      rw [invalid]
      refine iff_of_false (by simp) ?_
      rintro ⟨-, l, pic, inLine, -⟩
      exact quiet l inLine

/-- R115: bit `i` of a glyph index is the bit of the row's byte above its lowest one. -/
theorem glyphIndex_testBit (k : Candidate) (c i : Nat) (inside : i < k.window.depth) : (k.glyphIndex c).testBit i
    = (byteAt k.row (c * k.window.depth / 8)).getLsbD (8 - k.window.depth - c * k.window.depth % 8 + i) := by
  rw [Candidate.glyphIndex, Nat.testBit_mod_two_pow, Nat.testBit_div_two_pow, BitVec.getLsbD, Nat.add_comm]
  simp [inside]

/-- Settles O30: the pins by what the generator does, a pixel by its base and its candidates. -/
theorem panelPins : Obligations.PanelPins := by
  refine ⟨fun s p h => ⟨fun held => pins_of_held held p h, (pins_dataValid s p h).1, (pins_dataValid s p h).2,
    fun running quiet empty => ?empty, fun b running quiet active => ?idle, fun l running inLine => ?line⟩,
    fun s pic x => ⟨fun background => ?background, fun px shown => ⟨fun inside => ?inside, fun beyond => ?beyond⟩,
      fun none => ?alone, fun k below candidates => ?topmost⟩, fun k c d depth _ => ?glyph⟩
  case empty => rw [pins_of_quiet running quiet, idlePins_of_empty empty]
  case idle => rw [pins_of_quiet running quiet, idlePins_of_bank active]
  case line =>
    rw [pins_of_line running inLine]
    refine ⟨?pulse, rfl, fun high level => ?level, fun kind bits invert v regime applied => ?pattern,
      fun pic kind from' to' => pixelData_of_valid kind ((dataValid_iff l p).mpr ⟨pic, kind, from', to'⟩)⟩
    case pulse =>
      show l.linePulse p = _
      rw [Line.linePulse, level_eq, Bool.decide_and]
    case level =>
      show l.clock.levelAt p h = high
      rw [level]
      rfl
    case pattern =>
      show l.clock.levelAt p h = _
      rw [regime, ClockRegime.levelAt_pattern applied, bitLevel_eq]
  case background => rw [Picture.basePixel, background]
  case inside => rw [Picture.basePixel, shown]; exact List.getD_eq_getElem _ _ inside
  case beyond => rw [Picture.basePixel, shown]; exact List.getD_eq_default _ _ beyond
  case alone => rw [Picture.pixel, none]; rfl
  case topmost => rw [Picture.pixel, candidates]; rfl
  case glyph =>
    subst depth
    exact ⟨Nat.mod_lt _ (Nat.two_pow_pos _), fun i inside => glyphIndex_testBit k c i inside⟩

end Sys2Proof.Machine
end

section
/-! SUPPORT. The encodings of section 8.2 read back (Tables 8-1 to 8-3, R126): bytes and flags of a field, then each item
in both directions. -/

namespace Sys2Proof.Machine

variable {b : List Byte}

/-! ### Fields -/

theorem toNat_byteOf {n : Nat} (small : n ≤ 255) : (byteOf n).toNat = n := by
  rw [byteOf, BitVec.toNat_ofNat]
  omega

theorem byteOf_toNat (x : Byte) : byteOf x.toNat = x := by
  rw [byteOf, BitVec.ofNat_toNat, BitVec.setWidth_eq]

theorem bytes_of_number {n : Nat} (small : n ≤ 65535) :
    (byteOf (n / 256)).toNat * 256 + (byteOf n).toNat = n := by
  simp only [byteOf, BitVec.toNat_ofNat]
  omega

/-- A two-byte field is written as the bytes it was read from. -/
theorem natBytes2_natAt2 (b : List Byte) (k : Nat) : natBytes2 (natAt2 b k) = [byteAt b k, byteAt b (k + 1)] := by
  have high : byteOf (natAt2 b k / 256) = byteAt b k := by
    apply BitVec.eq_of_toNat_eq
    simp only [byteOf, BitVec.toNat_ofNat, natAt2]
    omega
  have low : byteOf (natAt2 b k) = byteAt b (k + 1) := by
    apply BitVec.eq_of_toNat_eq
    simp only [byteOf, BitVec.toNat_ofNat, natAt2]
    omega
  rw [natBytes2, high, low]

theorem optionByte_none : decodeOptionIndex (optionByte none) = some none := by decide

theorem optionByte_some {i : Nat} (small : i ≤ 15) : decodeOptionIndex (optionByte (some i)) = some (some i) := by
  have read : (byteOf i).toNat = i := toNat_byteOf (by omega)
  have notAbsent : byteOf i ≠ 0xFF := fun absent => by
    rw [absent] at read
    have : (0xFF : Byte).toNat = 255 := rfl
    omega
  rw [optionByte, decodeOptionIndex, if_neg notAbsent, read, if_pos small]

theorem decodeOptionIndex_optionByte {o : Option Nat} (small : ∀ i, o = some i → i ≤ 15) :
    decodeOptionIndex (optionByte o) = some o := by
  cases o with
  | none => exact optionByte_none
  | some i => exact optionByte_some (small i rfl)

theorem optionByte_of_decoded {x : Byte} {o : Option Nat} (decoded : decodeOptionIndex x = some o) :
    optionByte o = x := by
  unfold decodeOptionIndex at decoded
  split at decoded
  next absent =>
    cases decoded
    exact absent.symm
  next present =>
    split at decoded
    next => cases decoded; exact byteOf_toNat x
    next => cases decoded

/-- A list of a known length is its bytes one by one. -/
theorem eq_map_byteAt (b : List Byte) : b = (List.range b.length).map (byteAt b) := by
  apply List.ext_getElem
  · simp
  · intro i inside _
    simp [byteAt, inside]

end Sys2Proof.Machine
end

section
/-! SUPPORT. The raster and the program entry in both directions (Tables 8-1 and 8-2). -/

namespace Sys2Proof.Machine

variable {b : List Byte} {r : Raster} {e : Entry}

/-! ### The modes byte (Table 8-1, byte 18) -/

theorem packedModes_reads : ∀ p0 p1 p2 p3 p4 p5 : Bool,
    [0, 1, 2, 3, 4, 5, 6, 7].map
        (byteOf (bit p0 + bit p1 * 2 + bit p2 * 4 + bit p3 * 8 + bit p4 * 16 + bit p5 * 32)).getLsbD
      = [p0, p1, p2, p3, p4, p5, false, false] := by
  decide

theorem packedModes_of_bits : ∀ x : Byte, x.getLsbD 6 = false → x.getLsbD 7 = false →
    byteOf (bit (x.getLsbD 0) + bit (x.getLsbD 1) * 2 + bit (x.getLsbD 2) * 4 + bit (x.getLsbD 3) * 8
      + bit (x.getLsbD 4) * 16 + bit (x.getLsbD 5) * 32) = x := by
  decide

theorem modesByte_reads (r : Raster) : [0, 1, 2, 3, 4, 5, 6, 7].map r.modesByte.getLsbD
    = [decide (r.linePolarity = .activeLow), decide (r.framePolarity = .activeLow), r.clockIdle,
       decide (r.syncMode = .free), decide (r.missingPolicy = .fill), decide (r.damagedPolicy = .asMissing), false,
       false] :=
  packedModes_reads ..

theorem polarity_of_flag (x : Polarity) :
    (if decide (x = .activeLow) then Polarity.activeLow else .activeHigh) = x := by cases x <;> rfl
theorem syncMode_of_flag (x : SyncMode) : (if decide (x = .free) then SyncMode.free else .locked) = x := by
  cases x <;> rfl
theorem missingPolicy_of_flag (x : MissingPolicy) :
    (if decide (x = .fill) then MissingPolicy.fill else .repeatLast) = x := by cases x <;> rfl
theorem damagedPolicy_of_flag (x : DamagedPolicy) :
    (if decide (x = .asMissing) then DamagedPolicy.asMissing else .showLine) = x := by cases x <;> rfl

/-! ### Raster (Table 8-1) -/

/-- Every field of a raster within its range in the encoding. -/
structure Raster.Encodable (r : Raster) : Prop where
  width : r.width ≤ 4095
  height : r.height ≤ 4095
  hStart : r.hStart ≤ 4095
  vStart : r.vStart ≤ 4095
  lineTotal : r.lineTotal ≤ 4095
  frameTotal : r.frameTotal ≤ 4095
  linePulseStart : r.linePulseStart ≤ 4095
  linePulseWidth : r.linePulseWidth ≤ 255
  framePulseStart : r.framePulseStart ≤ 4095
  framePulseWidth : r.framePulseWidth ≤ 255
  prime : r.prime ≤ 255
  coastLimit : r.coastLimit ≤ 4095
  blankClock : ∀ i, r.blankClock = some i → i ≤ 15

/-- The bytes of a raster's encoding one by one, in the order of the table. -/
theorem encodeRaster_eq (r : Raster) : encodeRaster r = [byteOf (r.width / 256), byteOf r.width, byteOf (r.height / 256),
    byteOf r.height, byteOf (r.hStart / 256), byteOf r.hStart, byteOf (r.vStart / 256), byteOf r.vStart,
    byteOf (r.lineTotal / 256), byteOf r.lineTotal, byteOf (r.frameTotal / 256), byteOf r.frameTotal,
    byteOf (r.linePulseStart / 256), byteOf r.linePulseStart, byteOf r.linePulseWidth, byteOf (r.framePulseStart / 256),
    byteOf r.framePulseStart, byteOf r.framePulseWidth, r.modesByte, byteOf r.prime, byteOf (r.coastLimit / 256),
    byteOf r.coastLimit, red r.background, green r.background, blue r.background, optionByte r.blankClock] := rfl

theorem encodeRaster_words (fits : r.Encodable) :
    [0, 2, 4, 6, 8, 10, 12, 15, 20].map (natAt2 (encodeRaster r))
      = [r.width, r.height, r.hStart, r.vStart, r.lineTotal, r.frameTotal, r.linePulseStart, r.framePulseStart,
         r.coastLimit] := by
  have word {n : Nat} (small : n ≤ 4095) : (byteOf (n / 256)).toNat * 256 + (byteOf n).toNat = n :=
    bytes_of_number (by omega)
  simp only [encodeRaster_eq, List.map_cons, List.map_nil, natAt2, byteAt_cons_zero, byteAt_cons_succ, word fits.width,
    word fits.height, word fits.hStart, word fits.vStart, word fits.lineTotal, word fits.frameTotal,
    word fits.linePulseStart, word fits.framePulseStart, word fits.coastLimit]

theorem encodeRaster_bytes (fits : r.Encodable) :
    [14, 17, 19].map (fun k => (byteAt (encodeRaster r) k).toNat)
      = [r.linePulseWidth, r.framePulseWidth, r.prime] := by
  have linePulse : (byteAt (encodeRaster r) 14).toNat = r.linePulseWidth := toNat_byteOf fits.linePulseWidth
  have framePulse : (byteAt (encodeRaster r) 17).toNat = r.framePulseWidth := toNat_byteOf fits.framePulseWidth
  have prime : (byteAt (encodeRaster r) 19).toNat = r.prime := toNat_byteOf fits.prime
  simp only [List.map_cons, List.map_nil, linePulse, framePulse, prime]

/-- A raster within its ranges is read back from its encoding (R126). -/
theorem decodeRaster_encodeRaster (fits : r.Encodable) : decodeRaster (encodeRaster r) = some r := by
  have words := encodeRaster_words fits
  have bytes := encodeRaster_bytes fits
  have modes : [0, 1, 2, 3, 4, 5, 6, 7].map (byteAt (encodeRaster r) 18).getLsbD = _ := modesByte_reads r
  have blank : decodeOptionIndex (byteAt (encodeRaster r) 25) = some r.blankClock :=
    decodeOptionIndex_optionByte fits.blankClock
  have background : pixelOf (byteAt (encodeRaster r) 22) (byteAt (encodeRaster r) 23) (byteAt (encodeRaster r) 24)
      = r.background := pixelOf_channels r.background
  simp only [List.map_cons, List.map_nil, List.cons.injEq, and_true] at words bytes modes
  obtain ⟨width, height, hStart, vStart, lineTotal, frameTotal, linePulseStart, framePulseStart, coastLimit⟩ := words
  obtain ⟨linePulseWidth, framePulseWidth, prime⟩ := bytes
  obtain ⟨linePolarity, framePolarity, clockIdle, syncMode, missing, damaged, unused, unused'⟩ := modes
  have inRange : [0, 2, 4, 6, 8, 10, 12, 15, 20].all (fun i => natAt2 (encodeRaster r) i ≤ 4095) = true := by
    simp [width, height, hStart, vStart, lineTotal, frameTotal, linePulseStart, framePulseStart, coastLimit, fits.width,
      fits.height, fits.hStart, fits.vStart, fits.lineTotal, fits.frameTotal, fits.linePulseStart, fits.framePulseStart,
      fits.coastLimit]
  unfold decodeRaster
  dsimp only
  rw [if_pos ⟨length_encodeRaster r, inRange, unused, unused'⟩, blank]
  dsimp only
  rw [width, height, hStart, vStart, lineTotal, frameTotal, linePulseStart, framePulseStart, coastLimit, linePulseWidth,
    framePulseWidth, prime, linePolarity, framePolarity, clockIdle, syncMode, missing, damaged, background,
    polarity_of_flag, polarity_of_flag, syncMode_of_flag, missingPolicy_of_flag, damagedPolicy_of_flag]

/-- What is read as a raster encodes to the same bytes (R126). -/
theorem encodeRaster_of_decoded (decoded : decodeRaster b = some r) : encodeRaster r = b := by
  unfold decodeRaster at decoded
  dsimp only at decoded
  split at decoded
  next admitted =>
    obtain ⟨length, -, unused, unused'⟩ := admitted
    cases blank : decodeOptionIndex (byteAt b 25) with
    | none => simp [blank] at decoded
    | some index =>
      rw [blank] at decoded
      cases decoded
      have modes := packedModes_of_bits (byteAt b 18) unused unused'
      have flag (x : Bool) {α : Type} [DecidableEq α] (y z : α) (other : z ≠ y) :
          decide ((if x then y else z) = y) = x := by
        cases x <;> simp [other]
      conv => rhs; rw [eq_map_byteAt b, length]
      simp only [encodeRaster, Raster.modesByte, natBytes2_natAt2, byteOf_toNat, optionByte_of_decoded blank,
        red_pixelOf, green_pixelOf, blue_pixelOf, flag _ _ _ (by decide : Polarity.activeHigh ≠ .activeLow),
        flag _ _ _ (by decide : SyncMode.locked ≠ .free), flag _ _ _ (by decide : MissingPolicy.repeatLast ≠ .fill),
        flag _ _ _ (by decide : DamagedPolicy.showLine ≠ .asMissing), modes]
      rfl
  next => cases decoded

/-! ### Program entry (Table 8-2) -/

theorem Action.code_mem (x : Action) :
    (x, x.code) ∈ [(Action.showLine, (0 : Byte)), (.showThin, 1), (.repeatLine, 2), (.fill, 3)] := by
  cases x <;> decide

theorem decodeAction_code (x : Action) : decodeAction x.code = some x := by cases x <;> rfl

theorem code_of_decodeAction {x : Byte} {action : Action} (decoded : decodeAction x = some action) :
    action.code = x := by
  unfold decodeAction at decoded
  split at decoded
  next is => cases decoded; exact is.symm
  next =>
    split at decoded
    next is => cases decoded; exact is.symm
    next =>
      split at decoded
      next is => cases decoded; exact is.symm
      next =>
        split at decoded
        next is => cases decoded; exact is.symm
        next => cases decoded

/-- A byte of at most 1 is the byte of its flag. -/
theorem byteOf_bit_of_flag {x : Byte} (small : x.toNat ≤ 1) : byteOf (bit (decide (x = 1))) = x := by
  have flag : x = 0 ∨ x = 1 := by
    have zeroOrOne : x.toNat = 0 ∨ x.toNat = 1 := by omega
    rwa [toNat_eq_iff (by decide), toNat_eq_iff (by decide)] at zeroOrOne
  rcases flag with rfl | rfl <;> rfl

theorem phaseMode_mem (x : PhaseMode) :
    (x, byteOf (bit (x = .seeded))) ∈ [(PhaseMode.zero, (0 : Byte)), (.seeded, 1)] := by
  cases x <;> decide

/-- The field bytes of an entry's encoding, in the order of the table. -/
theorem encodeEntry_bytes (e : Entry) : encodeEntry e = [byteOf (e.runLength / 256), byteOf e.runLength, e.action.code,
    byteOf e.thinDivisor, byteOf (bit (e.phaseMode = .seeded)), byteOf e.patternA, optionByte e.patternB,
    byteOf (bit e.invert), e.windowMask] := rfl

/-- An entry within its ranges is read back from its encoding (R126). -/
theorem decodeEntry_encodeEntry (positive : 1 ≤ e.runLength) (runs : e.runLength ≤ 2048) (divisor : e.thinDivisor ≤ 255)
    (slotA : e.patternA ≤ 15) (slotB : ∀ i, e.patternB = some i → i ≤ 15) : decodeEntry (encodeEntry e) = some e := by
  have runLength : natAt2 (encodeEntry e) 0 = e.runLength := bytes_of_number (by omega)
  have thinDivisor : (byteAt (encodeEntry e) 3).toNat = e.thinDivisor := toNat_byteOf divisor
  have patternA : (byteAt (encodeEntry e) 5).toNat = e.patternA := toNat_byteOf (by omega)
  have patternB : decodeOptionIndex (byteAt (encodeEntry e) 6) = some e.patternB := decodeOptionIndex_optionByte slotB
  have action : decodeAction (byteAt (encodeEntry e) 2) = some e.action := decodeAction_code e.action
  have mask : byteAt (encodeEntry e) 8 = e.windowMask := rfl
  have phase : byteAt (encodeEntry e) 4 = if e.phaseMode = .seeded then 1 else 0 :=
    (byteOf_bit _).trans (by simp)
  have invert : byteAt (encodeEntry e) 7 = if e.invert then 1 else 0 := byteOf_bit _
  have admitted : (encodeEntry e).length = 9 ∧ 1 ≤ natAt2 (encodeEntry e) 0 ∧ natAt2 (encodeEntry e) 0 ≤ 2048
      ∧ (byteAt (encodeEntry e) 4).toNat ≤ 1 ∧ (byteAt (encodeEntry e) 5).toNat ≤ 15
      ∧ (byteAt (encodeEntry e) 7).toNat ≤ 1 := by
    rw [runLength, patternA, phase, invert]
    exact ⟨rfl, positive, runs, by split <;> decide, slotA, by split <;> decide⟩
  unfold decodeEntry
  rw [if_pos admitted, action, patternB]
  dsimp only
  rw [runLength, thinDivisor, patternA, mask, phase, invert]
  have phaseMode : (if (if e.phaseMode = .seeded then (1 : Byte) else 0) = 1 then PhaseMode.seeded else .zero)
      = e.phaseMode := by cases e.phaseMode <;> rfl
  have inverts : decide ((if e.invert then (1 : Byte) else 0) = 1) = e.invert := by cases e.invert <;> rfl
  rw [phaseMode, inverts]

/-- What is read as an entry encodes to the same bytes (R126). -/
theorem encodeEntry_of_decoded (decoded : decodeEntry b = some e) : encodeEntry e = b := by
  unfold decodeEntry at decoded
  split at decoded
  next admitted =>
    obtain ⟨length, -, -, phase, -, invert⟩ := admitted
    cases action : decodeAction (byteAt b 2) with
    | none => simp [action] at decoded
    | some x =>
      cases patternB : decodeOptionIndex (byteAt b 6) with
      | none => simp [action, patternB] at decoded
      | some slot =>
        rw [action, patternB] at decoded
        cases decoded
        have seeded : decide ((if byteAt b 4 = 1 then PhaseMode.seeded else .zero) = .seeded)
            = decide (byteAt b 4 = 1) := by
          by_cases one : byteAt b 4 = 1
          · simp [one]
          · rw [if_neg one, decide_eq_false one]
            rfl
        conv => rhs; rw [eq_map_byteAt b, length]
        simp only [encodeEntry, natBytes2_natAt2, byteOf_toNat, optionByte_of_decoded patternB,
          code_of_decodeAction action, seeded, byteOf_bit_of_flag phase, byteOf_bit_of_flag invert]
        rfl
  next => cases decoded

end Sys2Proof.Machine
end

section
/-! SUPPORT. Pattern slots and window records in both directions (R126, Table 8-3), and the round trips together. -/

namespace Sys2Proof.Machine

variable {b : List Byte} {p : Pattern} {w : Window} {slot : Nat}

/-! ### Bits in bytes (R126) -/

theorem packedBits_reads : ∀ v0 v1 v2 v3 v4 v5 v6 v7 : Bool, ∀ x : Byte,
    x = byteOf (bit v0 * 128 + bit v1 * 64 + bit v2 * 32 + bit v3 * 16 + bit v4 * 8 + bit v5 * 4 + bit v6 * 2 + bit v7) →
      [7, 6, 5, 4, 3, 2, 1, 0].map x.getLsbD = [v0, v1, v2, v3, v4, v5, v6, v7] := by
  simp only [forall_eq]
  decide

/-- The bit at place `j` of eight, the first in bit 7. -/
theorem byteOfBits_getLsbD (bits : List Bool) {j : Nat} (inside : j < 8) :
    (byteOfBits bits).getLsbD (7 - j) = bits.getD j false := by
  have reads := packedBits_reads _ _ _ _ _ _ _ _ _ (rfl : byteOfBits bits = _)
  simp only [List.map_cons, List.map_nil, List.cons.injEq, and_true] at reads
  obtain ⟨v0, v1, v2, v3, v4, v5, v6, v7⟩ := reads
  interval_cases j
  exacts [v0, v1, v2, v3, v4, v5, v6, v7]

theorem length_packBits (bits : List Bool) : (packBits bits).length = bytesForBits bits.length := by
  simp [packBits]

theorem byteAt_packBits {bits : List Bool} {i : Nat} (inside : i < bytesForBits bits.length) :
    byteAt (packBits bits) i = byteOfBits (bits.drop (8 * i)) := by
  rw [byteAt, List.getD_eq_getElem _ _ (by rwa [length_packBits])]
  simp [packBits]

theorem unpackBits_packBits (bits : List Bool) : unpackBits bits.length (packBits bits) = bits := by
  apply List.ext_getElem
  · simp [unpackBits]
  · intro i _ inside
    have byte : i / 8 < bytesForBits bits.length := by
      rw [bytesForBits]
      omega
    have place : 8 * (i / 8) + i % 8 = i := Nat.div_add_mod i 8
    simp only [unpackBits, List.getElem_map, List.getElem_range]
    rw [byteAt_packBits byte, byteOfBits_getLsbD _ (Nat.mod_lt _ (by decide))]
    simp [List.getElem?_drop, place, inside]

/-! ### Pattern slot (R131) -/

theorem length_encodePattern (slot : Nat) (p : Pattern) :
    (encodePattern slot (some p)).length = 3 + bytesForBits p.bits.length := by
  rw [encodePattern, List.length_append, length_packBits]
  rfl

theorem patternKind_of_code (k : PatternKind) :
    (k.code = 0 ∨ k.code = 1) ∧ k.code ≠ 0xFF ∧ (if k.code = 1 then PatternKind.gate else .level) = k := by
  cases k <;> decide

/-- A defined slot is read back from its encoding (R126). -/
theorem decodePattern_encodePattern (small : slot ≤ 15) (some : 1 ≤ p.bits.length) (few : p.bits.length ≤ 64) :
    decodePattern (encodePattern slot (Option.some p)) = Option.some (slot, Option.some p) := by
  obtain ⟨defined, notAbsent, kind⟩ := patternKind_of_code p.kind
  have slotRead : (byteAt (encodePattern slot (Option.some p)) 0).toNat = slot := toNat_byteOf (by omega)
  have kindRead : byteAt (encodePattern slot (Option.some p)) 1 = p.kind.code := rfl
  have lengthRead : (byteAt (encodePattern slot (Option.some p)) 2).toNat = p.bits.length := toNat_byteOf (by omega)
  have bits : (encodePattern slot (Option.some p)).drop 3 = packBits p.bits := rfl
  have length := length_encodePattern slot p
  unfold decodePattern
  dsimp only
  rw [slotRead, kindRead, lengthRead, bits, unpackBits_packBits, if_neg (by rw [length]; omega), if_neg notAbsent,
    if_pos ⟨defined, some, few, length⟩, kind]

/-- An undefined slot is read back from its encoding. -/
theorem decodePattern_undefined (small : slot ≤ 15) : decodePattern (encodePattern slot none) = some (slot, none) := by
  have slotRead : (byteAt (encodePattern slot none) 0).toNat = slot := toNat_byteOf (by omega)
  have length : (encodePattern slot none).length = 2 := rfl
  unfold decodePattern
  dsimp only
  rw [slotRead, length, if_neg (by omega)]
  rfl

/-- What can be read as a pattern slot: the slot's number first, then an undefine, or a kind, a length and bits. -/
theorem decodePattern_cases {o : Option Pattern} (decoded : decodePattern b = some (slot, o)) :
    (byteAt b 0).toNat = slot ∧ ((o = none ∧ byteAt b 1 = 0xFF ∧ b.length = 2)
      ∨ ((byteAt b 1 = 0 ∨ byteAt b 1 = 1) ∧ o = some {
          kind := if byteAt b 1 = 1 then .gate else .level
          bits := unpackBits (byteAt b 2).toNat (b.drop 3) })) := by
  unfold decodePattern at decoded
  dsimp only at decoded
  split at decoded
  next => cases decoded
  next =>
    split at decoded
    next absent =>
      split at decoded
      next two => cases decoded; exact ⟨rfl, Or.inl ⟨rfl, absent, two⟩⟩
      next => cases decoded
    next =>
      split at decoded
      next defined => cases decoded; exact ⟨rfl, Or.inr ⟨defined.1, rfl⟩⟩
      next => cases decoded

theorem encodePattern_of_undefined (decoded : decodePattern b = some (slot, none)) : encodePattern slot none = b := by
  obtain ⟨number, ⟨-, absent, two⟩ | ⟨-, other⟩⟩ := decodePattern_cases decoded
  · conv => rhs; rw [eq_map_byteAt b, two]
    rw [encodePattern, ← number, byteOf_toNat, ← absent]
    rfl
  · cases other

/-- The fields of a defined slot as they stand in the bytes (R126). -/
theorem fields_of_decodePattern (decoded : decodePattern b = some (slot, some p)) : (byteAt b 0).toNat = slot
    ∧ (p.kind, byteAt b 1) ∈ [(PatternKind.level, (0 : Byte)), (.gate, 1)] ∧ p.bits.length = (byteAt b 2).toNat
    ∧ ∀ i, i < p.bits.length → p.bits[i]? = some ((byteAt b (3 + i / 8)).getLsbD (7 - i % 8)) := by
  obtain ⟨number, ⟨other, -⟩ | ⟨kind, same⟩⟩ := decodePattern_cases decoded
  · cases other
  · cases same
    refine ⟨number, ?_, by simp [unpackBits], fun i inside => ?_⟩
    · rcases kind with kind | kind <;> simp [kind]
    · have inside : i < (byteAt b 2).toNat := by simpa [unpackBits] using inside
      simp [unpackBits, inside, byteAt_drop]

/-! ### Window record (Table 8-3) -/

/-- The bytes of a window record's encoding one by one, in the order of the table. -/
theorem encodeWindow_eq (w : Window) : encodeWindow w = [byteOf w.id, byteOf (w.x / 256), byteOf w.x, byteOf (w.y / 256),
    byteOf w.y, byteOf (w.width / 256), byteOf w.width, byteOf (w.height / 256), byteOf w.height,
    byteOf (w.glyphBase / 256), byteOf w.glyphBase, byteOf (w.stride / 256), byteOf w.stride, byteOf w.depth,
    byteOf w.paletteBase, byteOf (bit w.key.isSome), byteOf (w.key.getD 0), byteOf w.weight] := rfl

/-- Every field of a window record within its range in the encoding. -/
structure Window.Encodable (w : Window) : Prop where
  id : w.id ≤ 7
  x : w.x ≤ 2047
  y : w.y ≤ 2047
  width : 1 ≤ w.width ∧ w.width ≤ 2048
  height : 1 ≤ w.height ∧ w.height ≤ 2048
  glyphBase : w.glyphBase ≤ 16383
  stride : 1 ≤ w.stride ∧ w.stride ≤ 2048
  depth : w.depth = 1 ∨ w.depth = 2 ∨ w.depth = 4 ∨ w.depth = 8
  paletteBase : w.paletteBase ≤ 255
  key : ∀ k, w.key = some k → k ≤ 255
  weight : 1 ≤ w.weight ∧ w.weight ≤ 8

theorem encodeWindow_words (fits : w.Encodable) : [1, 3, 5, 7, 9, 11].map (natAt2 (encodeWindow w))
    = [w.x, w.y, w.width, w.height, w.glyphBase, w.stride] := by
  have word {n : Nat} (small : n ≤ 16383) : (byteOf (n / 256)).toNat * 256 + (byteOf n).toNat = n :=
    bytes_of_number (by omega)
  obtain ⟨-, x, y, ⟨-, width⟩, ⟨-, height⟩, glyphBase, ⟨-, stride⟩, -⟩ := fits
  simp only [encodeWindow_eq, List.map_cons, List.map_nil, natAt2, byteAt_cons_zero, byteAt_cons_succ,
    word (n := w.x) (by omega), word (n := w.y) (by omega), word (n := w.width) (by omega),
    word (n := w.height) (by omega), word glyphBase, word (n := w.stride) (by omega)]

theorem encodeWindow_bytes (fits : w.Encodable) : [0, 13, 14, 17].map (fun k => (byteAt (encodeWindow w) k).toNat)
    = [w.id, w.depth, w.paletteBase, w.weight] := by
  have id := fits.id
  have depth : w.depth ≤ 255 := by
    rcases fits.depth with depth | depth | depth | depth <;> omega
  have weight := fits.weight.2
  simp only [encodeWindow_eq, List.map_cons, List.map_nil, byteAt_cons_zero, byteAt_cons_succ,
    toNat_byteOf (n := w.id) (by omega), toNat_byteOf depth, toNat_byteOf fits.paletteBase,
    toNat_byteOf (n := w.weight) (by omega)]

/-- The two key bytes of a record with a key, and of one without (R134). -/
theorem encodeWindow_key (fits : w.Encodable) :
    (w.key = none → byteAt (encodeWindow w) 15 = 0 ∧ byteAt (encodeWindow w) 16 = 0)
      ∧ ∀ k, w.key = some k → byteAt (encodeWindow w) 15 = 1 ∧ (byteAt (encodeWindow w) 16).toNat = k := by
  have present : byteAt (encodeWindow w) 15 = byteOf (bit w.key.isSome) := rfl
  have key : byteAt (encodeWindow w) 16 = byteOf (w.key.getD 0) := rfl
  rw [present, key]
  refine ⟨fun absent => ?_, fun k is => ?_⟩
  · rw [absent]
    exact ⟨rfl, rfl⟩
  · rw [is]
    exact ⟨rfl, toNat_byteOf (fits.key k is)⟩

/-- A window record within its ranges is read back from its encoding (R126). -/
theorem decodeWindow_encodeWindow (fits : w.Encodable) : decodeWindow (encodeWindow w) = some w := by
  have words := encodeWindow_words fits
  have bytes := encodeWindow_bytes fits
  obtain ⟨absent, present⟩ := encodeWindow_key fits
  simp only [List.map_cons, List.map_nil, List.cons.injEq, and_true] at words bytes
  obtain ⟨x, y, width, height, glyphBase, stride⟩ := words
  obtain ⟨id, depth, paletteBase, weight⟩ := bytes
  have key : (if byteAt (encodeWindow w) 15 = 1 then some (byteAt (encodeWindow w) 16).toNat else none) = w.key := by
    cases keyed : w.key with
    | none =>
      rw [(absent keyed).1]
      rfl
    | some k =>
      rw [(present k keyed).1, (present k keyed).2]
      rfl
  have flag : (byteAt (encodeWindow w) 15).toNat ≤ 1 := by
    cases keyed : w.key with
    | none =>
      rw [(absent keyed).1]
      decide
    | some k =>
      rw [(present k keyed).1]
      decide
  have depthByte : byteAt (encodeWindow w) 13 = 1 ∨ byteAt (encodeWindow w) 13 = 2 ∨ byteAt (encodeWindow w) 13 = 4
      ∨ byteAt (encodeWindow w) 13 = 8 := by
    have listed := fits.depth
    rw [← depth] at listed
    rwa [toNat_eq_iff (by decide), toNat_eq_iff (by decide), toNat_eq_iff (by decide), toNat_eq_iff (by decide)]
      at listed
  unfold decodeWindow
  rw [x, y, width, height, glyphBase, stride, id, weight, if_pos ⟨length_encodeWindow w, fits.id, fits.x, fits.y,
    fits.width.1, fits.width.2, fits.height.1, fits.height.2, fits.glyphBase, fits.stride.1, fits.stride.2, depthByte,
    flag, fits.weight.1, fits.weight.2⟩, depth, paletteBase, key]

/-- What is read as a window record encodes to the same bytes, the byte of an absent key as 0 (R132, R134). -/
theorem encodeWindow_of_decoded (decoded : decodeWindow b = some w) :
    encodeWindow w = if byteAt b 15 = 1 then b else b.set 16 0 := by
  unfold decodeWindow at decoded
  split at decoded
  next admitted =>
    obtain ⟨length, -, -, -, -, -, -, -, -, -, -, -, flag, -⟩ := admitted
    have bytes : b = (List.range 18).map (byteAt b) := by
      conv => lhs; rw [eq_map_byteAt b, length]
    cases decoded
    rw [encodeWindow]
    simp only [natBytes2_natAt2, byteOf_toNat]
    split
    next one =>
      conv => rhs; rw [bytes]
      simp only [Option.isSome_some, Option.getD_some, byteOf_toNat]
      have present : byteOf (bit true) = byteAt b 15 := one.symm
      rw [present]
      rfl
    next other =>
      have zero : byteAt b 15 = 0 := by
        have toNat : (byteAt b 15).toNat = 0 := by
          have notOne := mt (toNat_eq_iff (x := byteAt b 15) (n := 1) (by decide)).mp other
          omega
        exact (toNat_eq_iff (by decide)).mp toNat
      have absent : byteOf (bit (none : Option Nat).isSome) = byteAt b 15 := zero.symm
      conv => rhs; rw [bytes]
      rw [absent]
      rfl
  next => cases decoded

/-- Settles O54: the round trips of the four encodings in both directions. -/
theorem stagedItemsReadBack : Obligations.StagedItemsReadBack := by
  refine ⟨?raster, ?entry, fun slot p small some few => decodePattern_encodePattern small some few,
    fun slot small => decodePattern_undefined small, ?window, fun b => ⟨fun r => encodeRaster_of_decoded,
      fun e => encodeEntry_of_decoded, fun slot => encodePattern_of_undefined, fun slot p => fields_of_decodePattern,
      fun w => encodeWindow_of_decoded⟩⟩
  case raster =>
    rintro r width height hStart vStart lineTotal frameTotal linePulseStart linePulseWidth framePulseStart
      framePulseWidth prime coastLimit blankClock _ rfl
    have fits : r.Encodable := ⟨width, height, hStart, vStart, lineTotal, frameTotal, linePulseStart, linePulseWidth,
      framePulseStart, framePulseWidth, prime, coastLimit, blankClock⟩
    refine ⟨decodeRaster_encodeRaster fits, encodeRaster_words fits, encodeRaster_bytes fits, modesByte_reads r,
      pixelOf_channels r.background, fun quiet => ?_, fun i named => ?_⟩
    · show optionByte r.blankClock = _
      rw [quiet]
      rfl
    · show (optionByte r.blankClock).toNat = i
      have small := blankClock i named
      rw [named]
      exact toNat_byteOf (by omega)
  case entry =>
    rintro e positive runs divisor slotA slotB _ rfl
    refine ⟨decodeEntry_encodeEntry positive runs divisor slotA slotB, bytes_of_number (by omega), e.action.code_mem,
      toNat_byteOf divisor, phaseMode_mem e.phaseMode, toNat_byteOf (by omega), fun single => ?_, fun i named => ?_,
      byteOf_bit _, rfl⟩
    · show optionByte e.patternB = _
      rw [single]
      rfl
    · show (optionByte e.patternB).toNat = i
      have small := slotB i named
      rw [named]
      exact toNat_byteOf (by omega)
  case window =>
    rintro w id x y width width' height height' glyphBase stride stride' depth paletteBase key weight weight' _ rfl
    have fits : w.Encodable := ⟨id, x, y, ⟨width, width'⟩, ⟨height, height'⟩, glyphBase, ⟨stride, stride'⟩, depth,
      paletteBase, key, ⟨weight, weight'⟩⟩
    exact ⟨decodeWindow_encodeWindow fits, encodeWindow_words fits, encodeWindow_bytes fits,
      (encodeWindow_key fits).1, (encodeWindow_key fits).2⟩

end Sys2Proof.Machine
end
